-- ==== Sys2Proof/Word.lean ====
section
/-! DEFINITION. The word types of the CHIP-8 core (00_scope.md R14, R15): every register value is an unsigned
number below 2^width. -/

namespace Sys2Proof

/-- A byte: a general register, a timer, the stack pointer, a memory byte (00_scope.md R14). -/
abbrev Byte := BitVec 8

/-- A 16-bit value: I, PC, a stack entry, an instruction word (00_scope.md R14, R17). -/
abbrev Word := BitVec 16

/-- A memory address: 12 bits (00_scope.md R14, 20_memory.md R80). -/
abbrev Addr := BitVec 12

/-- "a 4-bit unit; instruction words are conventionally described by their four nibbles" (00_scope.md R17). -/
abbrev Nibble := BitVec 4

/-- A register number, V0 .. VF (00_scope.md R18, 30_encoding.md R114). -/
abbrev Reg := Fin 16

/-- A key number, 0 .. F (10_state.md R47). -/
abbrev Key := Fin 16

end Sys2Proof
end

