-- ==== Sys2Proof/Machine/Flags.lean ====
section
/-! DEFINITION. Every flag computation of the spec. VF is the only flag and takes the value 0 or 1
(10_state.md R33). Each function computes a flag from the operands before the instruction (41_alu.md R181). -/

namespace Sys2Proof.Machine

/-- `bool(c)`: "1 if condition `c` holds, else 0" (00_scope.md section 5). -/
def boolByte (c : Bool) : Byte := if c then 1 else 0

/-- Carry of 8xy4: "the unsigned sum exceeds 255" (41_alu.md R180, R188). -/
def carryFlag (a b : Byte) : Byte := boolByte (decide (a.toNat + b.toNat > 255))

/-- No borrow of `a - b`, for 8xy5 and 8xy7: "1 ... when the minuend is greater than or equal to the subtrahend"
(41_alu.md R180, R189, R191). -/
def noBorrowFlag (a b : Byte) : Byte := boolByte (decide (b.toNat ≤ a.toNat))

/-- The bit 8xy6 shifts out: `V[x] & 0x01` (41_alu.md R190). -/
def shiftedOutRight (a : Byte) : Byte := a &&& 0x01

/-- The bit 8xyE shifts out: `V[x] >> 7` (41_alu.md R192). -/
def shiftedOutLeft (a : Byte) : Byte := a >>> 7

/-- Fx1E's flag where `FX1E_SETS_VF` is true: `bool(I + V[x] > 0xFFF)`, the sum without wrap
(42_index_memory.md R222). -/
def indexOverflowFlag (i : Word) (a : Byte) : Byte := boolByte (decide (i.toNat + a.toNat > 0xFFF))

/-- Dxyn's flag: 1 when a placed pixel went from set to unset (43_display.md R247). -/
def collisionFlag (c : Bool) : Byte := boolByte c

end Sys2Proof.Machine
end

