-- ==== Sys2Proof/Config.lean ====
section
/-! DEFINITION. What an implementation fixes: the parameters of 00_scope.md R13, and the one free value of the
machine, the random byte. -/

namespace Sys2Proof.Config

/-- `MEM_SIZE`: 4096 bytes (00_scope.md R13, 10_state.md R30). -/
def memSize : Nat := 0x1000

/-- `ENTRY`: where a program is loaded and PC starts (00_scope.md R13, 20_memory.md R93). -/
def entry : Nat := 0x200

/-- `FONT_BASE` (00_scope.md R13, 10_state.md R54). -/
def fontBase : Nat := 0x050

/-- `MAX_PROGRAM` = MEM_SIZE - ENTRY = 3584 bytes (00_scope.md R13, 70_reset_and_hazards.md R355). -/
def maxProgram : Nat := memSize - entry

/-- The default contents of `FONT`, 16 glyphs of 5 bytes (10_state.md R55, R56; log entry 3). -/
def font : List Byte :=
  [0xF0, 0x90, 0x90, 0x90, 0xF0] ++ -- 0
  [0x20, 0x60, 0x20, 0x20, 0x70] ++ -- 1
  [0xF0, 0x10, 0xF0, 0x80, 0xF0] ++ -- 2
  [0xF0, 0x10, 0xF0, 0x10, 0xF0] ++ -- 3
  [0x90, 0x90, 0xF0, 0x10, 0x10] ++ -- 4
  [0xF0, 0x80, 0xF0, 0x10, 0xF0] ++ -- 5
  [0xF0, 0x80, 0xF0, 0x90, 0xF0] ++ -- 6
  [0xF0, 0x10, 0x20, 0x40, 0x40] ++ -- 7
  [0xF0, 0x90, 0xF0, 0x90, 0xF0] ++ -- 8
  [0xF0, 0x90, 0xF0, 0x10, 0xF0] ++ -- 9
  [0xF0, 0x90, 0xF0, 0x90, 0x90] ++ -- A
  [0xE0, 0x90, 0xE0, 0x90, 0xE0] ++ -- B
  [0xF0, 0x80, 0x80, 0x80, 0xF0] ++ -- C
  [0xE0, 0x90, 0x90, 0x90, 0xE0] ++ -- D
  [0xF0, 0x80, 0xF0, 0x80, 0xF0] ++ -- E
  [0xF0, 0x80, 0xF0, 0x80, 0x80]    -- F

/-- `RandomByte`: draw number `k` of the oracle, "any value 0..255, under no law" (41_alu.md R193, 92 D20).
A FREE VALUE: it has no body, so no proof can see which byte it is (log entry 1). -/
opaque randomByte : Nat → Byte

end Sys2Proof.Config

namespace Sys2Proof

/-- `STACK_DEPTH`: 16 or 32, "the only other value the source allows" (10_state.md R41, 92 D8). -/
inductive StackDepth where
  | d16
  | d32
deriving DecidableEq, Repr

/-- `DRAW_EDGE`: the sprite's policy at the screen's edges (43_display.md R245, R246). -/
inductive DrawEdge where
  | clip
  | wrap
deriving DecidableEq, Repr

/-- The named parameters of 00_scope.md R13 that are not fixed (log entry 2). -/
structure Params where
  /-- `STACK_DEPTH` (92 D8). -/
  stackDepth         : StackDepth
  /-- `FX1E_SETS_VF` (42_index_memory.md R222, 92 D12). -/
  fx1eSetsVf         : Bool
  /-- `DRAW_EDGE` (92 D18). -/
  drawEdge           : DrawEdge
  /-- `TIMERS_WHILE_PAUSED` (60_exceptions.md R321, 92 D17). -/
  timersWhilePaused  : Bool
  /-- `FONT`: 80 bytes, glyph `d` the five bytes from `5 * d` (10_state.md R55, R56, 92 D24). -/
  font               : Vector Byte 80
deriving DecidableEq, Repr

/-- How many entries STACK has. -/
def StackDepth.toNat : StackDepth → Nat
  | .d16 => 16
  | .d32 => 32

/-- "each with the default this hardware takes" (00_scope.md R13). -/
def Params.standard : Params :=
  { stackDepth := .d16, fx1eSetsVf := false, drawEdge := .clip, timersWhilePaused := false,
    font := ⟨⟨Config.font⟩, rfl⟩ }

/-- STACK_DEPTH as a number. -/
def Params.depth (p : Params) : Nat := p.stackDepth.toNat

end Sys2Proof
end

