-- ==== Sys2Proof/Machine/Operands.lean ====
section
/-! DEFINITION. Every operand form of the spec: what an instruction computes from its fields and registers before it
acts. Registers and timers are read by Machine/Ops.lean. -/

namespace Sys2Proof.Machine

/-- A 12-bit address immediate, zero-extended where it is written to PC or I (30_encoding.md R113). -/
def addressOperand (nnn : Addr) : Word := nnn.setWidth 16

/-- Bnnn's target `(zext_16(nnn) + V[0]) mod 2^16`, not masked (40_flow.md R157). -/
def indexedTarget (nnn : Addr) (v0 : Byte) : Word := nnn.setWidth 16 + v0.setWidth 16

/-- The target of a skip, from the PC already advanced: `(PC + 2) mod 2^16` (40_flow.md R153, R158). -/
def skipTarget (pc : Word) : Word := pc + 2

/-- The address a data access at `addr` reaches: `addr & 0xFFF` (20_memory.md R83). -/
def maskAddress (addr : Nat) : Addr := BitVec.ofNat 12 addr

/-- The effective address of the k-th byte of an access through I: `(I + k) & 0xFFF` (42_index_memory.md R220,
20_memory.md R85). -/
def dataAddr (i : Word) (k : Nat) : Addr := maskAddress (i.toNat + k)

/-- `(I + V[x]) mod 2^16` (42_index_memory.md R222). -/
def indexSum (i : Word) (a : Byte) : Word := BitVec.ofNat 16 (i.toNat + a.toNat)

/-- `0x050 + V[x] * 5`, all eight bits of Vx (42_index_memory.md R223). -/
def glyphAddress (a : Byte) : Word := BitVec.ofNat 16 (Config.fontBase + a.toNat * 5)

/-- `v div 100` (42_index_memory.md R224). -/
def hundredsDigit (a : Byte) : Byte := BitVec.ofNat 8 (a.toNat / 100)

/-- `(v div 10) mod 10` (42_index_memory.md R224). -/
def tensDigit (a : Byte) : Byte := BitVec.ofNat 8 (a.toNat / 10 % 10)

/-- `v mod 10` (42_index_memory.md R224). -/
def onesDigit (a : Byte) : Byte := BitVec.ofNat 8 (a.toNat % 10)

/-- The key index `V[x] & 0x0F` (44_keys_timers.md R260). -/
def keyIndex (a : Byte) : Key := Fin.ofNat 16 (a &&& 0x0F).toNat

/-- The sprite's first column `V[x] mod 64` (43_display.md R243). -/
def spriteColumn (a : Byte) : Nat := a.toNat % 64

/-- The sprite's first row `V[y] mod 32` (43_display.md R243). -/
def spriteRow (a : Byte) : Nat := a.toNat % 32

/-- The sprite bit drawn `col` columns right of the start: `b[7 - col]`, bit 7 leftmost (43_display.md R244). -/
def spriteBit (b : Byte) (col : Nat) : Bool := b.getLsbD (7 - col)

end Sys2Proof.Machine
end

