-- ==== Sys2Proof/Syntax.lean ====
section
/-! DEFINITION. The 34 instructions (30_encoding.md R118, opcode_table.json), one constructor a row, in the table's
order, each with the fields its format names (30_encoding.md R112, R115). SHR and SHL keep the field `y` that their
meaning ignores (30_encoding.md R121), so that no bit of a word is lost. -/

namespace Sys2Proof

/-- The instructions of 30_encoding.md R117. -/
inductive Instr where
  /-- 00E0, 43_display.md R241. -/
  | cls
  /-- 00EE, 40_flow.md R150. -/
  | ret
  /-- 1nnn, 40_flow.md R151. -/
  | jp (nnn : Addr)
  /-- 2nnn, 40_flow.md R152. -/
  | call (nnn : Addr)
  /-- 3xnn, 40_flow.md R153. -/
  | seImm (x : Reg) (nn : Byte)
  /-- 4xnn, 40_flow.md R154. -/
  | sneImm (x : Reg) (nn : Byte)
  /-- 5xy0, 40_flow.md R155. -/
  | seReg (x y : Reg)
  /-- 6xnn, 41_alu.md R182. -/
  | ldImm (x : Reg) (nn : Byte)
  /-- 7xnn, 41_alu.md R183. -/
  | addImm (x : Reg) (nn : Byte)
  /-- 8xy0, 41_alu.md R184. -/
  | ldReg (x y : Reg)
  /-- 8xy1, 41_alu.md R185. -/
  | orReg (x y : Reg)
  /-- 8xy2, 41_alu.md R186. -/
  | andReg (x y : Reg)
  /-- 8xy3, 41_alu.md R187. -/
  | xorReg (x y : Reg)
  /-- 8xy4, 41_alu.md R188. -/
  | addReg (x y : Reg)
  /-- 8xy5, 41_alu.md R189. -/
  | sub (x y : Reg)
  /-- 8xy6, 41_alu.md R190; `y` is ignored. -/
  | shr (x y : Reg)
  /-- 8xy7, 41_alu.md R191. -/
  | subn (x y : Reg)
  /-- 8xyE, 41_alu.md R192; `y` is ignored. -/
  | shl (x y : Reg)
  /-- 9xy0, 40_flow.md R156. -/
  | sneReg (x y : Reg)
  /-- Annn, 42_index_memory.md R221. -/
  | ldI (nnn : Addr)
  /-- Bnnn, 40_flow.md R157. -/
  | jpV0 (nnn : Addr)
  /-- Cxnn, 41_alu.md R193. -/
  | rnd (x : Reg) (nn : Byte)
  /-- Dxyn, 43_display.md R242. -/
  | drw (x y : Reg) (n : Nibble)
  /-- Ex9E, 44_keys_timers.md R261. -/
  | skp (x : Reg)
  /-- ExA1, 44_keys_timers.md R262. -/
  | sknp (x : Reg)
  /-- Fx07, 44_keys_timers.md R263. -/
  | ldVxDt (x : Reg)
  /-- Fx0A, 44_keys_timers.md R264. -/
  | ldVxK (x : Reg)
  /-- Fx15, 44_keys_timers.md R268. -/
  | ldDtVx (x : Reg)
  /-- Fx18, 44_keys_timers.md R269. -/
  | ldStVx (x : Reg)
  /-- Fx1E, 42_index_memory.md R222. -/
  | addIVx (x : Reg)
  /-- Fx29, 42_index_memory.md R223. -/
  | ldFVx (x : Reg)
  /-- Fx33, 42_index_memory.md R224. -/
  | ldBVx (x : Reg)
  /-- Fx55, 42_index_memory.md R225. -/
  | ldMemVx (x : Reg)
  /-- Fx65, 42_index_memory.md R226. -/
  | ldVxMem (x : Reg)
deriving DecidableEq, Repr

end Sys2Proof
end

