-- ==== Sys2Proof/Machine/State.lean ====
section
/-! DEFINITION. The architectural state of the core as plain data (10_state.md section 1), how it can stop, and the
state right after construction (70_reset_and_hazards.md R350). -/

namespace Sys2Proof.Machine

/-- Memory as the list of the bytes that differ from what construction leaves with the default FONT (`Memory.initial`
of Machine/Ops.lean), in the canonical form `Memory.wf`: addresses strictly rising, no listed byte equal to the initial one. -/
abbrev Memory := List Host.Cell

/-- Sixteen key flags (10_state.md R47, R51). -/
abbrev Keys := Vector Bool 16

/-- "a 2-D grid of boolean pixels, 64 wide × 32 tall" (10_state.md R45): 32 rows of 64 columns. -/
abbrev Display := Vector (Vector Bool 64) 32

/-- "one of Running, Paused, Halted(reason)" (10_state.md R48); the reason is in `HALT_REASON` and `HALT_WORD`
(10_state.md R49). -/
inductive RunState where
  | running
  | paused
  | halted
deriving DecidableEq, Repr

/-- What stops the model where the spec gives no effect at all. -/
inductive Fault where
  /-- RET or CALL would use an entry of STACK that does not exist. Raised by `execRet` and `execCall` when
  `SP > STACK_DEPTH`, which no reachable state has (10_state.md R42). Safe: the machine stops (log entry 7). -/
  | stackIndexOutOfRange (index : Nat)
deriving DecidableEq, Repr

/-- What the model refuses by name. -/
inductive Refusal where
  /-- An instruction that has no meaning yet: raised by an arm of `exec`. Safe: the machine stops. -/
  | notModelled (mnemonic : String)
  /-- `load` on a state that is not freshly constructed (70_reset_and_hazards.md R356: "A model refuses `load` on any
  other state"). Raised by the host command `load`, never by a step. Safe: the machine stops. -/
  | loadNotFresh
  /-- `set_run_state(Halted)` (60_exceptions.md R332: "a model refuses it"). Raised by the host command
  `set_run_state`, never by a step. Safe: the machine stops. -/
  | haltedRequested
deriving DecidableEq, Repr

/-- The state of 10_state.md section 1. -/
structure State where
  /-- The parameters of 00_scope.md R13; nothing writes them (the model's own field, log entry 2). -/
  cfg        : Params
  /-- `MEM[0..4095]` (10_state.md R30): the cells that differ from `Memory.initial`, in canonical form. -/
  mem        : Memory
  /-- `V[0..15]` (10_state.md R31); register 15 is VF, the one flag (R33). -/
  v          : Vector Byte 16
  /-- `I` (10_state.md R34). -/
  idx        : Word
  /-- `PC`, the address of the next instruction to fetch (10_state.md R36). -/
  pc         : Word
  /-- `SP`, the number of return addresses on the stack (10_state.md R40). -/
  sp         : Byte
  /-- `STACK[0..STACK_DEPTH-1]` (10_state.md R41). -/
  stack      : List Word
  /-- `DT`, the delay timer (10_state.md R43). -/
  dt         : Byte
  /-- `ST`, the sound timer (10_state.md R43). -/
  st         : Byte
  /-- `DISP` (10_state.md R45), by rows: column `px` of row `py` is `disp[py][px]` (R46). -/
  disp       : Display
  /-- `KEY[0..15]`, "currently held down" (10_state.md R47). -/
  key        : Keys
  /-- `RUN` (10_state.md R48). -/
  run        : RunState
  /-- `HALT_REASON`, a code of 60_exceptions.md R301 (10_state.md R49). -/
  haltReason : BitVec 3
  /-- `HALT_WORD` (10_state.md R49). -/
  haltWord   : Word
  /-- `PROG_LEN` (10_state.md R50). -/
  progLen    : Word
  /-- `WAIT`: a key wait is pending (10_state.md R51). -/
  wait       : Bool
  /-- `WAIT_REG`, the register that will receive the key (10_state.md R51). -/
  waitReg    : Reg
  /-- `KEY_SNAP`, the key-state vector as the engine last sampled it (10_state.md R51). -/
  keySnap    : Keys
  /-- How many random bytes have been drawn (the model's own field, log entry 1). -/
  draws      : Nat
deriving DecidableEq, Repr

/-! ### One update a field -/

/-- Write `mem`, nothing else. -/
def State.setMem (s : State) (mem : Memory) : State := { s with mem := mem }

/-- Write `v`, nothing else. -/
def State.setV (s : State) (v : Vector Byte 16) : State := { s with v := v }

/-- Write `idx`, nothing else. -/
def State.setIdx (s : State) (idx : Word) : State := { s with idx := idx }

/-- Write `pc`, nothing else. -/
def State.setPc (s : State) (pc : Word) : State := { s with pc := pc }

/-- Write `sp`, nothing else. -/
def State.setSp (s : State) (sp : Byte) : State := { s with sp := sp }

/-- Write `stack`, nothing else. -/
def State.setStack (s : State) (stack : List Word) : State := { s with stack := stack }

/-- Write `dt`, nothing else. -/
def State.setDt (s : State) (dt : Byte) : State := { s with dt := dt }

/-- Write `st`, nothing else. -/
def State.setSt (s : State) (st : Byte) : State := { s with st := st }

/-- Write `disp`, nothing else. -/
def State.setDisp (s : State) (disp : Display) : State := { s with disp := disp }

/-- Write `key`, nothing else. -/
def State.setKey (s : State) (key : Keys) : State := { s with key := key }

/-- Write `run`, nothing else. -/
def State.setRun (s : State) (run : RunState) : State := { s with run := run }

/-- Write `haltReason`, nothing else. -/
def State.setHaltReason (s : State) (haltReason : BitVec 3) : State := { s with haltReason := haltReason }

/-- Write `haltWord`, nothing else. -/
def State.setHaltWord (s : State) (haltWord : Word) : State := { s with haltWord := haltWord }

/-- Write `progLen`, nothing else. -/
def State.setProgLen (s : State) (progLen : Word) : State := { s with progLen := progLen }

/-- Write `wait`, nothing else. -/
def State.setWait (s : State) (wait : Bool) : State := { s with wait := wait }

/-- Write `waitReg`, nothing else. -/
def State.setWaitReg (s : State) (waitReg : Reg) : State := { s with waitReg := waitReg }

/-- Write `keySnap`, nothing else. -/
def State.setKeySnap (s : State) (keySnap : Keys) : State := { s with keySnap := keySnap }

/-- Write `draws`, nothing else. -/
def State.setDraws (s : State) (draws : Nat) : State := { s with draws := draws }

/-- A key vector with every key up. -/
def Keys.none : Keys := Vector.replicate 16 false

/-- A display with every pixel off. -/
def Display.blank : Display := Vector.replicate 32 (Vector.replicate 64 false)

/-- The state after construction, but for FONT: no memory cell is listed, so memory reads as construction leaves it
with the default FONT. `State.construct` of Machine/Ops.lean installs the FONT of the parameters. -/
def State.initial (p : Params) : State where
  cfg        := p
  mem        := []
  v          := Vector.replicate 16 0
  idx        := 0
  pc         := 0
  sp         := 0
  stack      := List.replicate p.depth 0
  dt         := 0
  st         := 0
  disp       := Display.blank
  key        := Keys.none
  run        := .paused
  haltReason := 0
  haltWord   := 0
  progLen    := 0
  wait       := false
  waitReg    := 0
  keySnap    := Keys.none
  draws      := 0

/-- The state after reset of this hardware, whose parameters take their defaults (00_scope.md R13, 10_state.md
R53, R54, 70_reset_and_hazards.md R350): FONT is the default one, which is what unlisted cells read as. -/
def State.reset : State := State.initial Params.standard

end Sys2Proof.Machine
end

