-- ==== Sys2Proof/Machine/Ops.lean ====
section
/-! DEFINITION. The named operations over memory, registers, stack, keys, and the one way an instruction stops the
stream: `raise Halt` (60_exceptions.md R302). -/

namespace Sys2Proof.Machine

/-! ### Memory (20_memory.md) -/

/-- What construction leaves at an address with the default FONT: its bytes at 0x050..0x09F, else 0x00 (10_state.md
R53, R54, R56). This is what an unlisted address reads as, whatever the FONT of the parameters. -/
def Memory.initial (a : Nat) : Byte :=
  if Config.fontBase ≤ a then Config.font.getD (a - Config.fontBase) 0 else 0

/-- The byte at an address. -/
def Memory.read : Memory → Nat → Byte
  | [], a => Memory.initial a
  | (b, x) :: m, a => if a = b then x else Memory.read m a

/-- A cell in front of a memory, left out when it holds what an unlisted address reads as. -/
def Memory.cons (a : Nat) (x : Byte) (m : Memory) : Memory :=
  if x = Memory.initial a then m else (a, x) :: m

/-- Store a byte and keep the canonical form. -/
def Memory.write : Memory → Nat → Byte → Memory
  | [], a, x => Memory.cons a x []
  | (b, y) :: m, a, x =>
    if a < b then Memory.cons a x ((b, y) :: m)
    else if a = b then Memory.cons a x m
    else (b, y) :: Memory.write m a x

/-- The canonical form: addresses of the space, strictly rising, no cell equal to what an unlisted address reads as. -/
def Memory.wf : Memory → Bool
  | [] => true
  | (a, x) :: m =>
    decide (a < Config.memSize) && (x != Memory.initial a) && m.all (fun c => decide (a < c.1)) && Memory.wf m

/-- `MemRead(addr, 1)` at an address already masked (20_memory.md R83). -/
def State.readMem (s : State) (a : Addr) : Byte := s.mem.read a.toNat

/-- `MemWrite(addr, 1, v)` at an address already masked (20_memory.md R83). -/
def State.writeMem (s : State) (a : Addr) (x : Byte) : State := s.setMem (s.mem.write a.toNat x)

/-- Store bytes at `base + k`, `base + k + 1`, ..., each address masked separately, in ascending order
(20_memory.md R85, R97). -/
def State.storeBytes (s : State) (base : Word) (k : Nat) : List Byte → State
  | [] => s
  | b :: bs => State.storeBytes (s.writeMem (dataAddr base k) b) base (k + 1) bs

/-- Install the FONT of the parameters at 0x050 (10_state.md R54, 70_reset_and_hazards.md R354). -/
def State.installFont (s : State) : State := s.storeBytes (BitVec.ofNat 16 Config.fontBase) 0 s.cfg.font.toList

/-- "Machine State is created once per emulation session (zeroed, font table installed)" (10_state.md R53, R54;
70_reset_and_hazards.md R350). -/
def State.construct (p : Params) : State := (State.initial p).installFont

/-! ### General registers (10_state.md R31) -/

/-- `V[x]`. -/
def State.readV (s : State) (x : Reg) : Byte := s.v[x]

/-- `V[x] <- b`. -/
def State.writeV (s : State) (x : Reg) (b : Byte) : State := s.setV (s.v.set x b)

/-- VF, register 15 (00_scope.md R18). -/
def vf : Reg := 15

/-- Write the result to Vx first and the flag to VF last (41_alu.md R181). -/
def State.writeResultFlag (s : State) (x : Reg) (result flag : Byte) : State :=
  (s.writeV x result).writeV vf flag

/-- The register numbered `k`, for `k` below 16. -/
def regOfNat (k : Nat) : Reg := Fin.ofNat 16 k

/-- `for k in 0 .. count-1: MemWrite(I + k, 1, V[k])` (42_index_memory.md R225). -/
def State.storeRegs (s : State) : Nat → State
  | 0 => s
  | k + 1 => (s.storeRegs k).writeMem (dataAddr s.idx k) (s.readV (regOfNat k))

/-- `for k in 0 .. count-1: V[k] <- MemRead(I + k, 1)` (42_index_memory.md R226). -/
def State.loadRegs (s : State) : Nat → State
  | 0 => s
  | k + 1 => (s.loadRegs k).writeV (regOfNat k) (s.readMem (dataAddr s.idx k))

/-! ### Program counter (10_state.md R36 to R39) -/

/-- "Advance PC by 2 before dispatch" (30_encoding.md R139). -/
def State.advancePc (s : State) : State := s.setPc (s.pc + 2)

/-- `if c: pc <- (PC + 2) mod 2^16` (40_flow.md R158). -/
def State.skipIf (s : State) (c : Bool) : State := if c then s.setPc (skipTarget s.pc) else s

/-! ### Call stack (10_state.md R40, R41) -/

/-- `STACK[k]`, where the entry exists. -/
def State.readStack (s : State) (k : Nat) : Option Word := s.stack[k]?

/-- `STACK[k] <- r`, where the entry exists. -/
def State.writeStack (s : State) (k : Nat) (r : Word) : Option State :=
  if k < s.stack.length then some (s.setStack (s.stack.set k r)) else none

/-! ### Display (10_state.md R45, R46) -/

/-- `DISP[px][py]`. -/
def Display.get (d : Display) (px : Fin 64) (py : Fin 32) : Bool := d[py][px]

/-- `DISP[px][py] <- not DISP[px][py]`. -/
def Display.flip (d : Display) (px : Fin 64) (py : Fin 32) : Display := d.set py (d[py].set px (!d[py][px]))

/-- Pixel `DISP[px][py]` of a state. -/
def State.pixel (s : State) (px : Fin 64) (py : Fin 32) : Bool := s.disp.get px py

/-! ### Keys (10_state.md R47) -/

/-- `KEY[k]`. -/
def State.keyDown (s : State) (k : Key) : Bool := s.key[k]

/-- Every key number, ascending. -/
def allKeys : List Key := [0, 1, 2, 3, 4, 5, 6, 7, 8, 9, 10, 11, 12, 13, 14, 15]

/-- A press of key `k`: `KEY[k] = true and KEY_SNAP[k] = false` (44_keys_timers.md R265). -/
def State.pressed (s : State) (k : Key) : Bool := s.key[k] && !s.keySnap[k]

/-- `min(P)`: the "lowest-numbered newly pressed key" (44_keys_timers.md R266), or none when P is empty. -/
def State.firstPressed (s : State) : Option Key := allKeys.find? s.pressed

/-- A key number as the byte written to a register (44_keys_timers.md R266). -/
def keyByte (k : Key) : Byte := BitVec.ofNat 8 k.val

/-! ### Runtime errors (60_exceptions.md) -/

/-- The five runtime errors (60_exceptions.md R301). -/
inductive RuntimeError where
  | invalidOpcode (w : Word)
  | stackOverflow
  | stackUnderflow
  | programCounterOutOfBounds
  | endOfProgram
deriving DecidableEq, Repr

/-- The code in `HALT_REASON` (60_exceptions.md R301). -/
def RuntimeError.code : RuntimeError → BitVec 3
  | .invalidOpcode _           => 1
  | .stackOverflow             => 2
  | .stackUnderflow            => 3
  | .programCounterOutOfBounds => 4
  | .endOfProgram              => 5

/-- The value of `HALT_WORD`: "the instruction word for InvalidOpcode, 0x0000 for every other reason"
(10_state.md R49). -/
def RuntimeError.word : RuntimeError → Word
  | .invalidOpcode w => w
  | _                => 0

/-- `raise Halt(r)` (60_exceptions.md R302): RUN, HALT_REASON and HALT_WORD are written and nothing else. This is
the machine's one way of taking an exception. There is no handler and no return: "There is no return from a halt"
(60_exceptions.md R307). -/
def State.raiseHalt (s : State) (e : RuntimeError) : State :=
  ((s.setRun .halted).setHaltReason e.code).setHaltWord e.word

end Sys2Proof.Machine
end

