-- ==== Sys2Proof/Machine/Alu.lean ====
section
/-! DEFINITION. Register and ALU instructions (41_alu.md): unsigned 8-bit arithmetic (R180), operands and flag from
the values before the instruction, the result to Vx first and the flag to VF last (R181). -/

namespace Sys2Proof.Machine

/-- LD_IMM (41_alu.md R182). -/
def execLdImm (x : Reg) (nn : Byte) (s : State) : Host.Outcome State Fault Refusal :=
  .next (s.writeV x nn)

/-- ADD_IMM (41_alu.md R183): no flag side effect. -/
def execAddImm (x : Reg) (nn : Byte) (s : State) : Host.Outcome State Fault Refusal :=
  .next (s.writeV x (s.readV x + nn))

/-- LD_REG (41_alu.md R184). -/
def execLdReg (x y : Reg) (s : State) : Host.Outcome State Fault Refusal :=
  .next (s.writeV x (s.readV y))

/-- OR (41_alu.md R185): VF is not written as a flag. -/
def execOrReg (x y : Reg) (s : State) : Host.Outcome State Fault Refusal :=
  .next (s.writeV x (s.readV x ||| s.readV y))

/-- AND (41_alu.md R186): VF is not written as a flag. -/
def execAndReg (x y : Reg) (s : State) : Host.Outcome State Fault Refusal :=
  .next (s.writeV x (s.readV x &&& s.readV y))

/-- XOR (41_alu.md R187): VF is not written as a flag. -/
def execXorReg (x y : Reg) (s : State) : Host.Outcome State Fault Refusal :=
  .next (s.writeV x (s.readV x ^^^ s.readV y))

/-- ADD_REG (41_alu.md R188). -/
def execAddReg (x y : Reg) (s : State) : Host.Outcome State Fault Refusal :=
  .next (s.writeResultFlag x (s.readV x + s.readV y) (carryFlag (s.readV x) (s.readV y)))

/-- SUB (41_alu.md R189). -/
def execSub (x y : Reg) (s : State) : Host.Outcome State Fault Refusal :=
  .next (s.writeResultFlag x (s.readV x - s.readV y) (noBorrowFlag (s.readV x) (s.readV y)))

/-- SHR (41_alu.md R190): Vy is not read. -/
def execShr (x _y : Reg) (s : State) : Host.Outcome State Fault Refusal :=
  .next (s.writeResultFlag x (s.readV x >>> 1) (shiftedOutRight (s.readV x)))

/-- SUBN (41_alu.md R191). -/
def execSubn (x y : Reg) (s : State) : Host.Outcome State Fault Refusal :=
  .next (s.writeResultFlag x (s.readV y - s.readV x) (noBorrowFlag (s.readV y) (s.readV x)))

/-- SHL (41_alu.md R192): Vy is not read. -/
def execShl (x _y : Reg) (s : State) : Host.Outcome State Fault Refusal :=
  .next (s.writeResultFlag x (s.readV x <<< 1) (shiftedOutLeft (s.readV x)))

/-- RND with the drawn byte `r` (41_alu.md R193): `V[x] <- r & nn`. -/
def State.rndWith (s : State) (r : Byte) (x : Reg) (nn : Byte) : State := s.writeV x (r &&& nn)

/-- RND (41_alu.md R193): one fresh draw of the oracle, a free value (log entry 1). -/
def execRnd (x : Reg) (nn : Byte) (s : State) : Host.Outcome State Fault Refusal :=
  .next ((s.rndWith (Config.randomByte s.draws) x nn).setDraws (s.draws + 1))

end Sys2Proof.Machine
end

