-- ==== Sys2Proof/Machine/DisplayOps.lean ====
section
/-! DEFINITION. Display instructions (43_display.md): 00E0 and Dxyn, with the drawing loop of R242. -/

namespace Sys2Proof.Machine

/-- `Place(cx, cy)`: the pixel a sprite bit falls on, if it falls on the screen. `Clip` drops what is off screen
(43_display.md R245). `Wrap` wraps both coordinates (43_display.md R246). -/
def place (edge : DrawEdge) (cx cy : Nat) : Option (Fin 64 × Fin 32) :=
  match edge with
  | .clip => if h : cx < 64 ∧ cy < 32 then some (⟨cx, h.1⟩, ⟨cy, h.2⟩) else none
  | .wrap => some (Fin.ofNat 64 cx, Fin.ofNat 32 cy)

/-- The display and the collision so far. -/
abbrev DrawState := Display × Bool

/-- One sprite bit: a set bit that falls on the screen flips its pixel, and a pixel that was set is a collision
(43_display.md R242, R247). -/
def drawBit (edge : DrawEdge) (cx cy : Nat) (bit : Bool) (a : DrawState) : DrawState :=
  if bit then
    match place edge cx cy with
    | some (px, py) => (a.1.flip px py, a.2 || a.1.get px py)
    | none          => a
  else a

/-- `for col in 0 .. cols-1` of one sprite row `b` on screen row `cy` (43_display.md R242, R244). -/
def drawRow (edge : DrawEdge) (px0 cy : Nat) (b : Byte) : Nat → DrawState → DrawState
  | 0, a => a
  | col + 1, a => drawBit edge (px0 + col) cy (spriteBit b col) (drawRow edge px0 cy b col a)

/-- `for r in 0 .. rows-1` over the sprite's rows (43_display.md R242, R244); no iteration when `rows = 0`. -/
def drawRows (edge : DrawEdge) (px0 py0 : Nat) (sprite : Nat → Byte) : Nat → DrawState → DrawState
  | 0, a => a
  | r + 1, a => drawRow edge px0 (py0 + r) (sprite r) 8 (drawRows edge px0 py0 sprite r a)

/-- Row `r` of the sprite is the byte at `I + r`, masked (43_display.md R244, 20_memory.md R83). -/
def State.spriteByte (s : State) (r : Nat) : Byte := s.readMem (dataAddr s.idx r)

/-- CLS (43_display.md R241). -/
def execCls (s : State) : Host.Outcome State Fault Refusal :=
  .next (s.setDisp Display.blank)

/-- DRW (43_display.md R242): both coordinates are read before VF is written, and VF is written on every draw. -/
def execDrw (x y : Reg) (n : Nibble) (s : State) : Host.Outcome State Fault Refusal :=
  let d := drawRows s.cfg.drawEdge (spriteColumn (s.readV x)) (spriteRow (s.readV y)) s.spriteByte n.toNat
    (s.disp, false)
  .next ((s.setDisp d.1).writeV vf (collisionFlag d.2))

end Sys2Proof.Machine
end

