-- ==== Sys2Proof/Machine/Flow.lean ====
section
/-! DEFINITION. Control transfer and skips (40_flow.md). In every meaning PC already holds the address of the
instruction plus 2 (10_state.md R37). -/

namespace Sys2Proof.Machine

/-- RET (40_flow.md R150): StackUnderflow when SP = 0, else SP is decremented and PC takes the popped entry, which
keeps its value. -/
def execRet (s : State) : Host.Outcome State Fault Refusal :=
  if s.sp = 0 then .next (s.raiseHalt .stackUnderflow)
  else
    match s.readStack (s.sp - 1).toNat with
    | some r => .next ((s.setSp (s.sp - 1)).setPc r)
    | none   => .fault (.stackIndexOutOfRange (s.sp - 1).toNat)

/-- JP (40_flow.md R151). -/
def execJp (nnn : Addr) (s : State) : Host.Outcome State Fault Refusal :=
  .next (s.setPc (addressOperand nnn))

/-- CALL (40_flow.md R152): StackOverflow when SP = STACK_DEPTH, else the advanced PC is pushed. -/
def execCall (nnn : Addr) (s : State) : Host.Outcome State Fault Refusal :=
  if s.sp.toNat = s.cfg.depth then .next (s.raiseHalt .stackOverflow)
  else
    match s.writeStack s.sp.toNat s.pc with
    | some t => .next ((t.setSp (s.sp + 1)).setPc (addressOperand nnn))
    | none   => .fault (.stackIndexOutOfRange s.sp.toNat)

/-- SE_IMM (40_flow.md R153). -/
def execSeImm (x : Reg) (nn : Byte) (s : State) : Host.Outcome State Fault Refusal :=
  .next (s.skipIf (s.readV x == nn))

/-- SNE_IMM (40_flow.md R154). -/
def execSneImm (x : Reg) (nn : Byte) (s : State) : Host.Outcome State Fault Refusal :=
  .next (s.skipIf (s.readV x != nn))

/-- SE_REG (40_flow.md R155). -/
def execSeReg (x y : Reg) (s : State) : Host.Outcome State Fault Refusal :=
  .next (s.skipIf (s.readV x == s.readV y))

/-- SNE_REG (40_flow.md R156). -/
def execSneReg (x y : Reg) (s : State) : Host.Outcome State Fault Refusal :=
  .next (s.skipIf (s.readV x != s.readV y))

/-- JP_V0 (40_flow.md R157): the sum is stored unmasked. -/
def execJpV0 (nnn : Addr) (s : State) : Host.Outcome State Fault Refusal :=
  .next (s.setPc (indexedTarget nnn (s.readV 0)))

end Sys2Proof.Machine
end

