-- ==== Sys2Proof/Machine/IndexMemory.lean ====
section
/-! DEFINITION. Index register and memory instructions (42_index_memory.md). No access modifies I (R220). -/

namespace Sys2Proof.Machine

/-- LD_I (42_index_memory.md R221). -/
def execLdI (nnn : Addr) (s : State) : Host.Outcome State Fault Refusal :=
  .next (s.setIdx (addressOperand nnn))

/-- ADD_I_VX (42_index_memory.md R222): VF is written, last, only where `FX1E_SETS_VF` is true. -/
def execAddIVx (x : Reg) (s : State) : Host.Outcome State Fault Refusal :=
  let t := s.setIdx (indexSum s.idx (s.readV x))
  .next (if s.cfg.fx1eSetsVf then t.writeV vf (indexOverflowFlag s.idx (s.readV x)) else t)

/-- LD_F_VX (42_index_memory.md R223). -/
def execLdFVx (x : Reg) (s : State) : Host.Outcome State Fault Refusal :=
  .next (s.setIdx (glyphAddress (s.readV x)))

/-- LD_B_VX (42_index_memory.md R224): hundreds, tens, ones at I, I+1, I+2, each address masked. -/
def execLdBVx (x : Reg) (s : State) : Host.Outcome State Fault Refusal :=
  .next (s.storeBytes s.idx 0 [hundredsDigit (s.readV x), tensDigit (s.readV x), onesDigit (s.readV x)])

/-- LD_MEM_VX (42_index_memory.md R225): V0..Vx, x + 1 bytes, inclusive. -/
def execLdMemVx (x : Reg) (s : State) : Host.Outcome State Fault Refusal :=
  .next (s.storeRegs (x.val + 1))

/-- LD_VX_MEM (42_index_memory.md R226): V0..Vx, x + 1 bytes, inclusive. -/
def execLdVxMem (x : Reg) (s : State) : Host.Outcome State Fault Refusal :=
  .next (s.loadRegs (x.val + 1))

end Sys2Proof.Machine
end

