-- ==== Sys2Proof/Machine/KeysTimers.lean ====
section
/-! DEFINITION. Keypad and timer instructions, and the poll of a pending key wait (44_keys_timers.md). -/

namespace Sys2Proof.Machine

/-- SKP (44_keys_timers.md R261). -/
def execSkp (x : Reg) (s : State) : Host.Outcome State Fault Refusal :=
  .next (s.skipIf (s.keyDown (keyIndex (s.readV x))))

/-- SKNP (44_keys_timers.md R262). -/
def execSknp (x : Reg) (s : State) : Host.Outcome State Fault Refusal :=
  .next (s.skipIf (!s.keyDown (keyIndex (s.readV x))))

/-- LD_VX_DT (44_keys_timers.md R263). -/
def execLdVxDt (x : Reg) (s : State) : Host.Outcome State Fault Refusal :=
  .next (s.writeV x s.dt)

/-- LD_VX_K (44_keys_timers.md R264): the key wait begins; keys already down do not count as a press. -/
def execLdVxK (x : Reg) (s : State) : Host.Outcome State Fault Refusal :=
  .next (((s.setWait true).setWaitReg x).setKeySnap s.key)

/-- KeyWaitPoll (44_keys_timers.md R266): what a step does while a key wait is pending. -/
def State.keyWaitPoll (s : State) : State :=
  match s.firstPressed with
  | none   => s.setKeySnap s.key
  | some k => ((s.writeV s.waitReg (keyByte k)).setWait false).setKeySnap s.key

/-- LD_DT_VX (44_keys_timers.md R268). -/
def execLdDtVx (x : Reg) (s : State) : Host.Outcome State Fault Refusal :=
  .next (s.setDt (s.readV x))

/-- LD_ST_VX (44_keys_timers.md R269). -/
def execLdStVx (x : Reg) (s : State) : Host.Outcome State Fault Refusal :=
  .next (s.setSt (s.readV x))

end Sys2Proof.Machine
end

