-- ==== Sys2Proof/WellFormed.lean ====
section
/-! DEFINITION. The checks the spec makes on what enters the machine: an instruction word (30_encoding.md R117,
R119) and a program image (70_reset_and_hazards.md R355). An `Instr` needs no check of its own: "Within a valid word
every field value is legal" (30_encoding.md R121), and the fields' types hold exactly the field's values. -/

namespace Sys2Proof

/-- A row of the opcode table: a word belongs to it when the masked word is the match value. -/
structure OpcodeRow where
  mask    : Word
  pattern : Word
deriving DecidableEq, Repr

/-- The opcode map of 30_encoding.md R117 as masks and match values, in the order of opcode_table.json. Written
apart from the decoder, so that each checks the other. -/
def opcodeRows : List OpcodeRow :=
  [⟨0xFFFF, 0x00E0⟩, ⟨0xFFFF, 0x00EE⟩, ⟨0xF000, 0x1000⟩, ⟨0xF000, 0x2000⟩, ⟨0xF000, 0x3000⟩, ⟨0xF000, 0x4000⟩,
   ⟨0xF00F, 0x5000⟩, ⟨0xF000, 0x6000⟩, ⟨0xF000, 0x7000⟩, ⟨0xF00F, 0x8000⟩, ⟨0xF00F, 0x8001⟩, ⟨0xF00F, 0x8002⟩] ++
  [⟨0xF00F, 0x8003⟩, ⟨0xF00F, 0x8004⟩, ⟨0xF00F, 0x8005⟩, ⟨0xF00F, 0x8006⟩, ⟨0xF00F, 0x8007⟩, ⟨0xF00F, 0x800E⟩,
   ⟨0xF00F, 0x9000⟩, ⟨0xF000, 0xA000⟩, ⟨0xF000, 0xB000⟩, ⟨0xF000, 0xC000⟩, ⟨0xF000, 0xD000⟩] ++
  [⟨0xF0FF, 0xE09E⟩, ⟨0xF0FF, 0xE0A1⟩, ⟨0xF0FF, 0xF007⟩, ⟨0xF0FF, 0xF00A⟩, ⟨0xF0FF, 0xF015⟩, ⟨0xF0FF, 0xF018⟩,
   ⟨0xF0FF, 0xF01E⟩, ⟨0xF0FF, 0xF029⟩, ⟨0xF0FF, 0xF033⟩, ⟨0xF0FF, 0xF055⟩, ⟨0xF0FF, 0xF065⟩]

/-- The word belongs to the row. -/
def OpcodeRow.matches (r : OpcodeRow) (w : Word) : Bool := w &&& r.mask == r.pattern

/-- The word is one of the 43954 valid words (30_encoding.md R119). -/
def wordValid (w : Word) : Bool := opcodeRows.any (·.matches w)

/-- The image fits: "program_bytes.length <= memory_size - entry_offset" (70_reset_and_hazards.md R355). -/
def imageFits (bytes : List Byte) : Bool := decide (bytes.length ≤ Config.maxProgram)

/-- Every instruction is well formed: no field has a reserved value (30_encoding.md R114, R121). -/
def Instr.wellFormed (_ : Instr) : Bool := true

end Sys2Proof
end

