-- ==== Sys2Proof/Decode.lean ====
section
/-! DEFINITION. The decoder, total on every word and rejecting an invalid word by name (30_encoding.md R116 to R119,
R138), and after it the encoder, written from the formats of 30_encoding.md R115. -/

namespace Sys2Proof

/-! ### Bytes and words (20_memory.md R86: big-endian) -/

/-- The instruction word of two consecutive bytes; the byte at the lower address is bits 15:8 (20_memory.md R84). -/
def wordOfBytes (hi lo : Byte) : Word := hi ++ lo

/-- The byte of a word that lies at the lower address. -/
def highByte (w : Word) : Byte := w.extractLsb' 8 8

/-- The byte of a word that lies at the higher address. -/
def lowByte (w : Word) : Byte := w.extractLsb' 0 8

/-! ### The six fields (30_encoding.md R112) -/

/-- `op = w[15:12]`. -/
def opField (w : Word) : Nibble := w.extractLsb' 12 4

/-- `w[11:8]` as bits. -/
def xBits (w : Word) : Nibble := w.extractLsb' 8 4

/-- `w[7:4]` as bits. -/
def yBits (w : Word) : Nibble := w.extractLsb' 4 4

/-- `n = w[3:0]`. -/
def nField (w : Word) : Nibble := w.extractLsb' 0 4

/-- `nn = w[7:0]`. -/
def nnField (w : Word) : Byte := w.extractLsb' 0 8

/-- `nnn = w[11:0]`. -/
def nnnField (w : Word) : Addr := w.extractLsb' 0 12

/-- "the value `k` names Vk" (30_encoding.md R114). -/
def regOfBits (b : Nibble) : Reg := ⟨b.toNat, b.isLt⟩

/-- The four bits that name a register. -/
def bitsOfReg (r : Reg) : Nibble := BitVec.ofNat 4 r.val

/-- The register field `x`. -/
def xField (w : Word) : Reg := regOfBits (xBits w)

/-- The register field `y`. -/
def yField (w : Word) : Reg := regOfBits (yBits w)

/-! ### The decoder -/

/-- "the 34 instructions ... with their fields, plus `Invalid`" (30_encoding.md R138). -/
inductive Decoded where
  | instr (i : Instr)
  | invalidOpcode (w : Word)
deriving DecidableEq, Repr

/-- Family 0x0: the whole word is compared (30_encoding.md R116, 90_conflicts.md C2). -/
def decodeWhole (w : Word) : Decoded :=
  if w = 0x00E0 then .instr .cls
  else if w = 0x00EE then .instr .ret
  else .invalidOpcode w

/-- Families 0x5 and 0x9: the low nibble must be 0 (30_encoding.md R116). -/
def decodeNibbleZero (w : Word) (i : Instr) : Decoded :=
  if nField w = 0 then .instr i else .invalidOpcode w

/-- Family 0x8, selected by n (30_encoding.md R117). -/
def decodeAlu (w : Word) : Decoded :=
  match (nField w).toNat with
  | 0x0 => .instr (.ldReg (xField w) (yField w))
  | 0x1 => .instr (.orReg (xField w) (yField w))
  | 0x2 => .instr (.andReg (xField w) (yField w))
  | 0x3 => .instr (.xorReg (xField w) (yField w))
  | 0x4 => .instr (.addReg (xField w) (yField w))
  | 0x5 => .instr (.sub (xField w) (yField w))
  | 0x6 => .instr (.shr (xField w) (yField w))
  | 0x7 => .instr (.subn (xField w) (yField w))
  | 0xE => .instr (.shl (xField w) (yField w))
  | _ => .invalidOpcode w

/-- Family 0xE, selected by nn (30_encoding.md R117). -/
def decodeKeys (w : Word) : Decoded :=
  match (nnField w).toNat with
  | 0x9E => .instr (.skp (xField w))
  | 0xA1 => .instr (.sknp (xField w))
  | _ => .invalidOpcode w

/-- Family 0xF, selected by nn (30_encoding.md R117). -/
def decodeMisc (w : Word) : Decoded :=
  match (nnField w).toNat with
  | 0x07 => .instr (.ldVxDt (xField w))
  | 0x0A => .instr (.ldVxK (xField w))
  | 0x15 => .instr (.ldDtVx (xField w))
  | 0x18 => .instr (.ldStVx (xField w))
  | 0x1E => .instr (.addIVx (xField w))
  | 0x29 => .instr (.ldFVx (xField w))
  | 0x33 => .instr (.ldBVx (xField w))
  | 0x55 => .instr (.ldMemVx (xField w))
  | 0x65 => .instr (.ldVxMem (xField w))
  | _ => .invalidOpcode w

/-- Decode "extracts, from the 16-bit word" the fields and selects by op (30_encoding.md R112, R116, R117). -/
def decode (w : Word) : Decoded :=
  match (opField w).toNat with
  | 0x0 => decodeWhole w
  | 0x1 => .instr (.jp (nnnField w))
  | 0x2 => .instr (.call (nnnField w))
  | 0x3 => .instr (.seImm (xField w) (nnField w))
  | 0x4 => .instr (.sneImm (xField w) (nnField w))
  | 0x5 => decodeNibbleZero w (.seReg (xField w) (yField w))
  | 0x6 => .instr (.ldImm (xField w) (nnField w))
  | 0x7 => .instr (.addImm (xField w) (nnField w))
  | 0x8 => decodeAlu w
  | 0x9 => decodeNibbleZero w (.sneReg (xField w) (yField w))
  | 0xA => .instr (.ldI (nnnField w))
  | 0xB => .instr (.jpV0 (nnnField w))
  | 0xC => .instr (.rnd (xField w) (nnField w))
  | 0xD => .instr (.drw (xField w) (yField w) (nField w))
  | 0xE => decodeKeys w
  | _ => decodeMisc w

/-- The instruction this decoder reads from the bits of an opcode-table row. A word is 16 bits, bit 0 its least
significant bit, so the table's number is the word, less the bits above `nbits`; it reaches the decoder as the two
bytes the hardware stores. -/
def decodeTableWord (nbits w : Nat) : Option Instr :=
  let word : Word := BitVec.ofNat 16 (w % 2 ^ nbits)
  match decode (wordOfBytes (highByte word) (lowByte word)) with
  | .instr i => some i
  | .invalidOpcode _ => none

/-! ### The encoder, by format (30_encoding.md R115) -/

/-- Format `A`: op, nnn. -/
def wordA (op : Nibble) (nnn : Addr) : Word := op ++ nnn

/-- Formats `XB` and `XF`: op, x, and a low byte (an immediate or a function byte). -/
def wordXB (op : Nibble) (x : Reg) (nn : Byte) : Word := (op ++ bitsOfReg x : BitVec 8) ++ nn

/-- Formats `XY` and `XYN`: op, x, y, and a low nibble (a function nibble or a count). -/
def wordXY (op : Nibble) (x y : Reg) (n : Nibble) : Word :=
  (op ++ bitsOfReg x : BitVec 8) ++ (bitsOfReg y ++ n : BitVec 8)

/-- The word of an instruction. -/
def encode : Instr → Word
  | .cls          => 0x00E0
  | .ret          => 0x00EE
  | .jp nnn       => wordA 0x1 nnn
  | .call nnn     => wordA 0x2 nnn
  | .seImm x nn   => wordXB 0x3 x nn
  | .sneImm x nn  => wordXB 0x4 x nn
  | .seReg x y    => wordXY 0x5 x y 0x0
  | .ldImm x nn   => wordXB 0x6 x nn
  | .addImm x nn  => wordXB 0x7 x nn
  | .ldReg x y    => wordXY 0x8 x y 0x0
  | .orReg x y    => wordXY 0x8 x y 0x1
  | .andReg x y   => wordXY 0x8 x y 0x2
  | .xorReg x y   => wordXY 0x8 x y 0x3
  | .addReg x y   => wordXY 0x8 x y 0x4
  | .sub x y      => wordXY 0x8 x y 0x5
  | .shr x y      => wordXY 0x8 x y 0x6
  | .subn x y     => wordXY 0x8 x y 0x7
  | .shl x y      => wordXY 0x8 x y 0xE
  | .sneReg x y   => wordXY 0x9 x y 0x0
  | .ldI nnn      => wordA 0xA nnn
  | .jpV0 nnn     => wordA 0xB nnn
  | .rnd x nn     => wordXB 0xC x nn
  | .drw x y n    => wordXY 0xD x y n
  | .skp x        => wordXB 0xE x 0x9E
  | .sknp x       => wordXB 0xE x 0xA1
  | .ldVxDt x     => wordXB 0xF x 0x07
  | .ldVxK x      => wordXB 0xF x 0x0A
  | .ldDtVx x     => wordXB 0xF x 0x15
  | .ldStVx x     => wordXB 0xF x 0x18
  | .addIVx x     => wordXB 0xF x 0x1E
  | .ldFVx x      => wordXB 0xF x 0x29
  | .ldBVx x      => wordXB 0xF x 0x33
  | .ldMemVx x    => wordXB 0xF x 0x55
  | .ldVxMem x    => wordXB 0xF x 0x65

end Sys2Proof
end

