-- ==== Sys2Proof/Machine/Fetch.lean ====
section
/-! DEFINITION. The instruction fetch and its checks (30_encoding.md R136, 20_memory.md R84), and placing one
instruction where the next step fetches it. -/

namespace Sys2Proof.Machine

/-- `FetchWord(pc)`: big-endian, unmasked; read only after the checks (20_memory.md R84). -/
def State.fetchWord (s : State) : Word :=
  wordOfBytes (s.readMem (BitVec.ofNat 12 s.pc.toNat)) (s.readMem (BitVec.ofNat 12 (s.pc.toNat + 1)))

/-- "if PC or PC+1 exceeds memory bounds": `PC + 1 > 0xFFF`, without wrap (30_encoding.md R136). -/
def State.fetchOutOfBounds (s : State) : Bool := decide (s.pc.toNat + 1 > 0xFFF)

/-- The two bytes are not both inside the loaded image: `PC + 2 > 0x200 + PROG_LEN`, without wrap
(30_encoding.md R136). There is no lower bound (20_memory.md R94). -/
def State.fetchPastEnd (s : State) : Bool := decide (s.pc.toNat + 2 > Config.entry + s.progLen.toNat)

/-- Lines 4 to 6 of 30_encoding.md R135: the bounds check, the end check, the word. -/
def State.fetch (s : State) : Except RuntimeError Word :=
  if s.fetchOutOfBounds then .error .programCounterOutOfBounds
  else if s.fetchPastEnd then .error .endOfProgram
  else .ok s.fetchWord

/-- Where an instruction is placed to be the next one fetched: at PC, or, where no program is loaded or PC is out of
bounds, at the entry point, as `load` would place it. -/
def State.placeAddress (s : State) : Word :=
  if s.progLen = 0 ∨ s.pc.toNat + 1 > 0xFFF then BitVec.ofNat 16 Config.entry else s.pc

/-- `s` with a word stored where the next step fetches, and with all that this fetch needs: PC there, PROG_LEN long
enough, RUN = Running with no halt record, no key wait (log entry 8). It stands for the host's `load`. -/
def State.placeWord (s : State) (w : Word) : State :=
  let a := s.placeAddress
  let t := (s.writeMem (BitVec.ofNat 12 a.toNat) (highByte w)).writeMem (BitVec.ofNat 12 (a.toNat + 1)) (lowByte w)
  let len := if a.toNat + 2 ≤ Config.entry + s.progLen.toNat then s.progLen
    else BitVec.ofNat 16 (a.toNat + 2 - Config.entry)
  (((((t.setPc a).setProgLen len).setRun .running).setHaltReason 0).setHaltWord 0).setWait false

end Sys2Proof.Machine
end

