-- ==== Sys2Proof/Machine/Step.lean ====
section
/-! DEFINITION. One `step()` (30_encoding.md R135), in the order of priority of 60_exceptions.md R310. -/

namespace Sys2Proof.Machine

/-- `step()`: nothing when not Running, a poll while a key wait is pending, else fetch, decode, advance PC and
execute. The sums of the fetch checks are without wrap. -/
def step (s : State) : Host.Outcome State Fault Refusal :=
  if s.run ≠ .running then .next s
  else if s.wait then .next s.keyWaitPoll
  else
    match s.fetch with
    | .error e => .next (s.raiseHalt e)
    | .ok w =>
      match decode w with
      | .invalidOpcode w' => .next (s.advancePc.raiseHalt (.invalidOpcode w'))
      | .instr i          => exec i s.advancePc

/-- `s` with the instruction whose bits are `w` (those above `nbits` zero) stored where `step` fetches next. -/
def State.withFetchWord (s : State) (nbits w : Nat) : State := s.placeWord (BitVec.ofNat 16 (w % 2 ^ nbits))

end Sys2Proof.Machine
end

