-- ==== Sys2Proof/Machine/Command.lean ====
section
/-! DEFINITION. The block's interface (10_state.md R57 to R60): the commands `load`, `step`, `tick`,
`set_run_state`, the host's write of KEY, the statuses of a step and the outputs. Each is one indivisible event, and
the events come in any order the host chooses (10_state.md R59, 60_exceptions.md R311). -/

namespace Sys2Proof.Machine

/-! ### Outputs -/

/-- `sound_on`: `ST > 0`, a function of ST (10_state.md R44). -/
def State.soundOn (s : State) : Bool := decide (s.st.toNat > 0)

/-- The four statuses of a step (10_state.md R58); `Halted(reason)` carries the halt record of 10_state.md R49. -/
inductive StepStatus where
  | executed
  | waiting
  | notRunning
  | halted (reason : BitVec 3) (word : Word)
deriving DecidableEq, Repr

/-- The status of the step that led from `s` to `t` (30_encoding.md R135 lines 1, 2, 11, 12 and R140;
60_exceptions.md R302). -/
def stepStatus (s t : State) : StepStatus :=
  if s.run ≠ .running then .notRunning
  else if t.run = .halted then .halted t.haltReason t.haltWord
  else if t.wait then .waiting
  else .executed

/-! ### The timer tick (60_exceptions.md R320, R321) -/

/-- "decrements ... by 1 ..., floored at 0". -/
def countDown (d : Byte) : Byte := if d = 0 then 0 else d - 1

/-- `tick()`: nothing while Paused unless `TIMERS_WHILE_PAUSED`, else both timers count down. -/
def State.tick (s : State) : State :=
  if s.run = .paused ∧ s.cfg.timersWhilePaused = false then s
  else (s.setDt (countDown s.dt)).setSt (countDown s.st)

/-! ### Run-state control (60_exceptions.md R330, R332) -/

/-- What `set_run_state` may ask for. -/
inductive RunRequest where
  | running
  | paused
deriving DecidableEq, Repr

/-- `set_run_state(s)`: Running and Paused as asked; nothing when Halted. -/
def State.setRunState (s : State) (r : RunRequest) : State :=
  match s.run with
  | .halted => s
  | _ =>
    match r with
    | .running => s.setRun .running
    | .paused  => s.setRun .paused

/-! ### The loader (70_reset_and_hazards.md R352 to R355) -/

/-- The state after a successful `load(bytes, len)`: the image at 0x200, the font at 0x050 again, PROG_LEN, PC, RUN,
and nothing else (70_reset_and_hazards.md R352, R353). -/
def State.loadImage (s : State) (bytes : List Byte) : State :=
  let t := (s.storeBytes (BitVec.ofNat 16 Config.entry) 0 bytes).installFont
  ((t.setProgLen (BitVec.ofNat 16 bytes.length)).setPc (BitVec.ofNat 16 Config.entry)).setRun .running

/-! ### Events -/

/-- A session: the machine's state and whether it is freshly constructed, that is, whether no command has run since
construction but a `load` that failed (70_reset_and_hazards.md R355, R356). `fresh` is a fact of the command history,
not a register of the core (log entry 6). -/
structure Session where
  state : State
  fresh : Bool
deriving DecidableEq, Repr

/-- A newly constructed session. -/
def Session.new (p : Params) : Session := { state := State.construct p, fresh := true }

/-- What the host can do (10_state.md R57, R60). `set_run_state` takes any run-state, so that its refusal of Halted
can be said. -/
inductive Event where
  | load (bytes : List Byte)
  | step
  | tick
  | setRunState (r : RunState)
  | writeKeys (keys : Keys)
deriving DecidableEq, Repr

/-- What the core answers. -/
inductive Response where
  | loadOk
  | programTooLarge
  | status (st : StepStatus)
  | done
deriving DecidableEq, Repr

/-- `load`: refused on a state that is not fresh (70_reset_and_hazards.md R356); an image that does not fit changes
nothing (R355), and the state stays fresh. -/
def Session.load (z : Session) (bytes : List Byte) : Host.Outcome (Session × Response) Fault Refusal :=
  if z.fresh = false then .refused .loadNotFresh
  else if imageFits bytes then .next ({ state := z.state.loadImage bytes, fresh := false }, .loadOk)
  else .next (z, .programTooLarge)

/-- `step()`, with its status. -/
def Session.step (z : Session) : Host.Outcome (Session × Response) Fault Refusal :=
  match Sys2Proof.Machine.step z.state with
  | .next t    => .next ({ state := t, fresh := false }, .status (stepStatus z.state t))
  | .fault r   => .fault r
  | .refused r => .refused r

/-- `set_run_state(s)`: `s = Halted` is refused (60_exceptions.md R332). -/
def Session.setRunState (z : Session) (r : RunState) : Host.Outcome (Session × Response) Fault Refusal :=
  match r with
  | .running => .next ({ state := z.state.setRunState .running, fresh := false }, .done)
  | .paused  => .next ({ state := z.state.setRunState .paused, fresh := false }, .done)
  | .halted  => .refused .haltedRequested

/-- One event of the host. A write of KEY leaves a fresh state fresh ("host writes of `KEY` do not count",
70_reset_and_hazards.md R356). -/
def Session.event (z : Session) (e : Event) : Host.Outcome (Session × Response) Fault Refusal :=
  match e with
  | .load bytes     => z.load bytes
  | .step           => z.step
  | .tick           => .next ({ state := z.state.tick, fresh := false }, .done)
  | .setRunState r  => z.setRunState r
  | .writeKeys keys => .next ({ state := z.state.setKey keys, fresh := z.fresh }, .done)

end Sys2Proof.Machine
end

