-- ==== Sys2Proof/Safety.lean ====
section
/-! DEFINITION. What the claims are stated in: the invariant of a run, what an instruction may write (its
footprint), the pixels a sprite covers, and runs of steps and of host events. -/

namespace Sys2Proof.Machine

/-! ### The invariant -/

/-- What every state the core can be in satisfies. -/
structure State.Inv (s : State) : Prop where
  /-- Memory is in canonical form, so equal memories are equal data. -/
  memCanonical : s.mem.wf = true
  /-- STACK has STACK_DEPTH entries (10_state.md R41). -/
  stackLength : s.stack.length = s.cfg.depth
  /-- `0 <= SP <= STACK_DEPTH` (10_state.md R42). -/
  spBound : s.sp.toNat ≤ s.cfg.depth
  /-- Every stack entry is a PC after an advance from a word that could be fetched. -/
  stackEntries : ∀ r ∈ s.stack, r.toNat ≤ 0x1000
  /-- "The largest value an instruction can write is 0x10FE" (10_state.md R39). -/
  pcBound : s.pc.toNat ≤ 0x10FE
  /-- `PROG_LEN` "holds 0..3584" (10_state.md R50). -/
  progBound : s.progLen.toNat ≤ Config.maxProgram
  /-- `HALT_REASON` is "0 while not halted" (10_state.md R49). -/
  haltedIff : s.run = .halted ↔ s.haltReason ≠ 0
  /-- "Code values 6 and 7 of the 3-bit field are never written" (60_exceptions.md R301). -/
  haltCode : s.haltReason.toNat ≤ 5
  /-- `HALT_WORD` is "0x0000 for every other reason" (10_state.md R49). -/
  haltWord : s.haltReason ≠ 1 → s.haltWord = 0
  /-- `HALT_WORD` is "the instruction word for InvalidOpcode" (10_state.md R49), which matches no instruction. -/
  haltWordInvalid : s.haltReason = 1 → wordValid s.haltWord = false
  /-- `WAIT` = 1 "never occurs with RUN = Halted" (10_state.md R52). -/
  waitNotHalted : s.wait = true → s.run ≠ .halted

/-- The invariant of a session: the state's, and a fresh session is the constructed state, keys apart. -/
structure Session.Inv (z : Session) : Prop where
  state : z.state.Inv
  fresh : z.fresh = true → ∃ keys, z.state = (State.construct z.state.cfg).setKey keys

/-! ### Footprints: what an instruction may write -/

/-- What an instruction may write. PC is not in it: PC may always change. -/
structure Footprint where
  v       : Reg → Bool := fun _ => false
  mem     : Addr → Bool := fun _ => false
  stack   : Nat → Bool := fun _ => false
  idx     : Bool := false
  sp      : Bool := false
  dt      : Bool := false
  st      : Bool := false
  disp    : Bool := false
  keyWait : Bool := false
  draws   : Bool := false

/-- `t` differs from `s` at most in PC and in what the footprint allows. The parameters, the keys, RUN, the halt
record and PROG_LEN are in no footprint. -/
structure Within (f : Footprint) (s t : State) : Prop where
  v          : ∀ r, f.v r = false → t.readV r = s.readV r
  mem        : ∀ a, f.mem a = false → t.readMem a = s.readMem a
  stack      : ∀ k, f.stack k = false → t.readStack k = s.readStack k
  idx        : f.idx = false → t.idx = s.idx
  sp         : f.sp = false → t.sp = s.sp
  dt         : f.dt = false → t.dt = s.dt
  st         : f.st = false → t.st = s.st
  disp       : f.disp = false → t.disp = s.disp
  wait       : f.keyWait = false → t.wait = s.wait
  waitReg    : f.keyWait = false → t.waitReg = s.waitReg
  keySnap    : f.keyWait = false → t.keySnap = s.keySnap
  draws      : f.draws = false → t.draws = s.draws
  cfg        : t.cfg = s.cfg
  key        : t.key = s.key
  run        : t.run = s.run
  haltReason : t.haltReason = s.haltReason
  haltWord   : t.haltWord = s.haltWord
  progLen    : t.progLen = s.progLen

/-- Register `x` alone. -/
def onlyReg (x : Reg) : Reg → Bool := fun r => r == x

/-- Register `x` and VF. -/
def regAndFlag (x : Reg) : Reg → Bool := fun r => r == x || r == vf

/-- The address is one of the `n` bytes at `I`, `I + 1`, ..., each masked (20_memory.md R85). -/
def inRun (i : Word) (n : Nat) : Addr → Bool := fun a => (List.range n).any fun k => a == dataAddr i k

/-- What each instruction writes: the right column of 10_state.md R32 for the registers, 20_memory.md R89 for memory,
and the instruction's own rule for the rest. `s` is the state the instruction executes on. -/
def footprint (s : State) : Instr → Footprint
  | .cls          => { disp := true }
  | .ret          => { sp := true }
  | .jp _         => {}
  | .call _       => { sp := true, stack := fun k => k == s.sp.toNat }
  | .seImm _ _    => {}
  | .sneImm _ _   => {}
  | .seReg _ _    => {}
  | .ldImm x _    => { v := onlyReg x }
  | .addImm x _   => { v := onlyReg x }
  | .ldReg x _    => { v := onlyReg x }
  | .orReg x _    => { v := onlyReg x }
  | .andReg x _   => { v := onlyReg x }
  | .xorReg x _   => { v := onlyReg x }
  | .addReg x _   => { v := regAndFlag x }
  | .sub x _      => { v := regAndFlag x }
  | .shr x _      => { v := regAndFlag x }
  | .subn x _     => { v := regAndFlag x }
  | .shl x _      => { v := regAndFlag x }
  | .sneReg _ _   => {}
  | .ldI _        => { idx := true }
  | .jpV0 _       => {}
  | .rnd x _      => { v := onlyReg x, draws := true }
  | .drw _ _ _    => { v := onlyReg vf, disp := true }
  | .skp _        => {}
  | .sknp _       => {}
  | .ldVxDt x     => { v := onlyReg x }
  | .ldVxK _      => { keyWait := true }
  | .ldDtVx _     => { dt := true }
  | .ldStVx _     => { st := true }
  | .addIVx _     => { idx := true, v := fun r => s.cfg.fx1eSetsVf && r == vf }
  | .ldFVx _      => { idx := true }
  | .ldBVx _      => { mem := inRun s.idx 3 }
  | .ldMemVx x    => { mem := inRun s.idx (x.val + 1) }
  | .ldVxMem x    => { v := fun r => decide (r ≤ x) }

/-- Address `a` holds `b` once the `n` bytes `byte 0`, `byte 1`, ... are stored from I on: the byte stored there, or,
where none of the `n` is, the byte it held before (20_memory.md R85). -/
def State.HoldsAfterStore (s : State) (n : Nat) (byte : Nat → Byte) (a : Addr) (b : Byte) : Prop :=
  (∃ k < n, a = dataAddr s.idx k ∧ b = byte k) ∨ ((∀ k < n, a ≠ dataAddr s.idx k) ∧ b = s.readMem a)

/-! ### Sprites -/

/-- The sprite bit in column `col` of row `r` lands on the pixel: under `Clip` where the sums are its coordinates
(43_display.md R245), under `Wrap` where they are once wrapped (43_display.md R246). -/
def landsOn (edge : DrawEdge) (px0 py0 r col : Nat) (px : Fin 64) (py : Fin 32) : Prop :=
  match edge with
  | .clip => px0 + col = px.val ∧ py0 + r = py.val
  | .wrap => (px0 + col) % 64 = px.val ∧ (py0 + r) % 32 = py.val

/-- The draw of `n` sprite rows at column `px0`, row `py0` places a set bit on the pixel; bit 7 of a row is its
leftmost column (43_display.md R242, R244). -/
def covers (edge : DrawEdge) (px0 py0 : Nat) (sprite : Nat → Byte) (n : Nat) (px : Fin 64) (py : Fin 32) : Prop :=
  ∃ r < n, ∃ col < 8, (sprite r).getLsbD (7 - col) = true ∧ landsOn edge px0 py0 r col px py

/-- The pixels that `DRW Vx, Vy, n` places a set bit on, from the state it executes on: the start is
`(V[x] mod 64, V[y] mod 32)` (43_display.md R243), row `r` is the byte at `(I + r) & 0xFFF` (43_display.md R244). -/
def State.drawCovers (s : State) (x y : Reg) (n : Nibble) (px : Fin 64) (py : Fin 32) : Prop :=
  covers s.cfg.drawEdge ((s.readV x).toNat % 64) ((s.readV y).toNat % 32) (fun r => s.readMem (dataAddr s.idx r))
    n.toNat px py

/-! ### The index register modulo the address space -/

/-- `t` is `s` but for the bits of I above the address space (10_state.md R35). -/
def SameAddresses (s t : State) : Prop := t = s.setIdx t.idx ∧ t.idx.setWidth 12 = s.idx.setWidth 12

/-- Two runs end alike: in states that differ at most in those bits, or with the same stop. -/
def EndAlike : Host.Outcome State Fault Refusal → Host.Outcome State Fault Refusal → Prop
  | .next s, .next t       => SameAddresses s t
  | .fault r, .fault r'    => r = r'
  | .refused r, .refused r' => r = r'
  | _, _                   => False

/-! ### Runs -/

/-- A step fetches: RUN is Running, no key wait is pending and both fetch checks pass (30_encoding.md R135). -/
structure State.Fetches (s : State) : Prop where
  running  : s.run = .running
  notWait  : s.wait = false
  inBounds : s.pc.toNat + 1 ≤ 0xFFF
  inImage  : s.pc.toNat + 2 ≤ Config.entry + s.progLen.toNat

/-- `t` comes from `s` by zero or more steps, in every state of which, `t` included, SP is at least `n`. -/
inductive StepsAbove (n : Nat) : State → State → Prop where
  | refl (s : State) : n ≤ s.sp.toNat → StepsAbove n s s
  | tail {s t u : State} : StepsAbove n s t → step t = .next u → n ≤ u.sp.toNat → StepsAbove n s u

/-- `n` ticks, one after another (60_exceptions.md R320). -/
def State.ticks (s : State) : Nat → State
  | 0 => s
  | n + 1 => (s.ticks n).tick

/-- The session after a list of host events, each of which the core answers. -/
inductive EventRun : Session → List Event → Session → Prop where
  | nil (z : Session) : EventRun z [] z
  | cons {z z' z'' : Session} {e : Event} {r : Response} {es : List Event} :
      z.event e = .next (z', r) → EventRun z' es z'' → EventRun z (e :: es) z''

end Sys2Proof.Machine
end

