-- ==== Sys2Proof/Certificates/Slice0/Obligations.lean ====
section
/-! DEFINITION. The statements for the provers. `exec i s` is the instruction's own effect: `s` is the state whose PC
already holds the instruction's address plus 2 (10_state.md R37). `Within (footprint s i) s t` is the frame: what `i`
leaves unchanged. -/

open Sys2Proof Sys2Proof.Machine

/-! ### Encoding -/

/-- Decoding the encoding of any instruction gives it back, with every operand (30_encoding.md R112, R115, R117). -/
def Obligations.DecodeOfEncodeIsTheInstruction : Prop :=
  ∀ i : Instr, decode (encode i) = .instr i

/-- Every valid word has one reading: encoding what it decodes to gives the word back, no bit dropped
(30_encoding.md R112, R121). -/
def Obligations.EncodeOfDecodeIsTheWord : Prop :=
  ∀ (w : Word) (i : Instr), decode w = .instr i → encode i = w

/-- The six patterns of 30_encoding.md R119 are exactly the words that decode to no instruction, and each is rejected
by its own name. -/
def Obligations.InvalidWordsAreExactlyTheListedPatterns : Prop :=
  ∀ w : Word,
    let op := w.toNat / 0x1000
    let n := w.toNat % 0x10
    let nn := w.toNat % 0x100
    let invalid :=
      (op = 0x0 ∧ w ≠ 0x00E0 ∧ w ≠ 0x00EE) ∨ (op = 0x5 ∧ n ≠ 0) ∨
      (op = 0x8 ∧ (8 ≤ n ∧ n ≤ 0xD ∨ n = 0xF)) ∨ (op = 0x9 ∧ n ≠ 0) ∨
      (op = 0xE ∧ nn ≠ 0x9E ∧ nn ≠ 0xA1) ∨
      (op = 0xF ∧ nn ∉ [0x07, 0x0A, 0x15, 0x18, 0x1E, 0x29, 0x33, 0x55, 0x65])
    (invalid → decode w = .invalidOpcode w) ∧ (¬ invalid → ∃ i, decode w = .instr i) ∧
    (wordValid w = true ↔ ¬ invalid)

/-- The opcode map row by row (30_encoding.md R117), with the fields of R112 and R115 at every value (R113, R114): the
word whose nibbles a row gives decodes to the row's instruction, an immediate and a register number as they stand. -/
def Obligations.WordsDecodeAsTheOpcodeMapSays : Prop :=
  ∀ (x y : Reg) (n : Nibble) (nn : Byte) (nnn : Addr),
    let word (v : Nat) : Word := BitVec.ofNat 16 v
    let vx := 0x100 * x.val
    let vy := 0x10 * y.val
    decode (word 0x00E0) = .instr .cls ∧ decode (word 0x00EE) = .instr .ret ∧
    decode (word (0x1000 + nnn.toNat)) = .instr (.jp nnn) ∧
    decode (word (0x2000 + nnn.toNat)) = .instr (.call nnn) ∧
    decode (word (0x3000 + vx + nn.toNat)) = .instr (.seImm x nn) ∧
    decode (word (0x4000 + vx + nn.toNat)) = .instr (.sneImm x nn) ∧
    decode (word (0x5000 + vx + vy)) = .instr (.seReg x y) ∧
    decode (word (0x6000 + vx + nn.toNat)) = .instr (.ldImm x nn) ∧
    decode (word (0x7000 + vx + nn.toNat)) = .instr (.addImm x nn) ∧
    decode (word (0x8000 + vx + vy)) = .instr (.ldReg x y) ∧
    decode (word (0x8001 + vx + vy)) = .instr (.orReg x y) ∧
    decode (word (0x8002 + vx + vy)) = .instr (.andReg x y) ∧
    decode (word (0x8003 + vx + vy)) = .instr (.xorReg x y) ∧
    decode (word (0x8004 + vx + vy)) = .instr (.addReg x y) ∧
    decode (word (0x8005 + vx + vy)) = .instr (.sub x y) ∧
    decode (word (0x8006 + vx + vy)) = .instr (.shr x y) ∧
    decode (word (0x8007 + vx + vy)) = .instr (.subn x y) ∧
    decode (word (0x800E + vx + vy)) = .instr (.shl x y) ∧
    decode (word (0x9000 + vx + vy)) = .instr (.sneReg x y) ∧
    decode (word (0xA000 + nnn.toNat)) = .instr (.ldI nnn) ∧
    decode (word (0xB000 + nnn.toNat)) = .instr (.jpV0 nnn) ∧
    decode (word (0xC000 + vx + nn.toNat)) = .instr (.rnd x nn) ∧
    decode (word (0xD000 + vx + vy + n.toNat)) = .instr (.drw x y n) ∧
    decode (word (0xE09E + vx)) = .instr (.skp x) ∧ decode (word (0xE0A1 + vx)) = .instr (.sknp x) ∧
    decode (word (0xF007 + vx)) = .instr (.ldVxDt x) ∧ decode (word (0xF00A + vx)) = .instr (.ldVxK x) ∧
    decode (word (0xF015 + vx)) = .instr (.ldDtVx x) ∧ decode (word (0xF018 + vx)) = .instr (.ldStVx x) ∧
    decode (word (0xF01E + vx)) = .instr (.addIVx x) ∧ decode (word (0xF029 + vx)) = .instr (.ldFVx x) ∧
    decode (word (0xF033 + vx)) = .instr (.ldBVx x) ∧ decode (word (0xF055 + vx)) = .instr (.ldMemVx x) ∧
    decode (word (0xF065 + vx)) = .instr (.ldVxMem x)

/-- Words written out from the formats of 30_encoding.md R115 decode to the instructions they stand for. -/
def Obligations.SampleWordsOfEveryFormatDecode : Prop :=
  decode 0x00E0 = .instr .cls ∧ decode 0x2ABC = .instr (.call 0xABC) ∧ decode 0x3A42 = .instr (.seImm 10 0x42) ∧
  decode 0x8124 = .instr (.addReg 1 2) ∧ decode 0xD12F = .instr (.drw 1 2 0xF) ∧ decode 0xF365 = .instr (.ldVxMem 3)

/-! ### The step -/

/-- A step runs the decoded instruction: when the step fetches and the two bytes at PC, the first the more
significant, decode to `i`, the step is `i` executed with PC advanced by 2 (30_encoding.md R135 lines 3 to 10). -/
def Obligations.StepRunsTheDecodedInstruction : Prop :=
  ∀ (s : State) (w : Word) (i : Instr), s.Fetches →
    w.toNat = 256 * (s.mem.read s.pc.toNat).toNat + (s.mem.read (s.pc.toNat + 1)).toNat →
    decode w = .instr i → step s = exec i (s.setPc (s.pc + 2))

/-- A step that is not Running changes nothing and says so (30_encoding.md R137). -/
def Obligations.StepIsANoOpWhenNotRunning : Prop :=
  ∀ s : State, s.run ≠ .running → step s = .next s ∧ stepStatus s s = .notRunning

/-- The two fetch checks, the bounds check first: each halts the step and leaves PC and all else but RUN and the halt
record unchanged; where both pass, the fetch answers the word at PC (30_encoding.md R136). -/
def Obligations.FetchChecksHaltTheStep : Prop :=
  ∀ s : State, s.run = .running → s.wait = false →
    (s.pc.toNat + 1 > 0xFFF →
      step s = .next { s with run := .halted, haltReason := 4, haltWord := 0 }) ∧
    (s.pc.toNat + 1 ≤ 0xFFF → s.pc.toNat + 2 > 0x200 + s.progLen.toNat →
      step s = .next { s with run := .halted, haltReason := 5, haltWord := 0 }) ∧
    (s.pc.toNat + 1 ≤ 0xFFF → s.pc.toNat + 2 ≤ 0x200 + s.progLen.toNat → s.fetch = .ok s.fetchWord)

/-- An invalid word halts after the advance of PC, with the word recorded, whatever its pattern (30_encoding.md R119,
R120, R139). -/
def Obligations.InvalidWordHaltsAfterTheAdvance : Prop :=
  ∀ (s : State), s.Fetches → wordValid s.fetchWord = false →
    step s = .next { s with pc := s.pc + 2, run := .halted, haltReason := 1, haltWord := s.fetchWord }

/-- Runtime errors are precise (60_exceptions.md R303): a halting step changes PC (as the last column of R301 says),
RUN and the halt record, and nothing else. -/
def Obligations.RuntimeErrorsArePrecise : Prop :=
  ∀ s t : State, s.run = .running → step s = .next t → t.run = .halted →
    t = { s with pc := t.pc, run := .halted, haltReason := t.haltReason, haltWord := t.haltWord } ∧
    t.pc = (if t.haltReason = 4 ∨ t.haltReason = 5 then s.pc else s.pc + 2)

/-- Which step halts and what it records (60_exceptions.md R301): the five conditions, their codes, HALT_WORD and PC
after, and no other step halts: a step that is not Running changes nothing, and one that polls a key wait
(44_keys_timers.md R267) or runs any other valid word stays Running. -/
def Obligations.HaltCausesAndRecords : Prop :=
  ∀ s : State, s.Inv → ∃ t, step s = .next t ∧
    (s.run ≠ .running → t = s) ∧
    (s.run = .running → s.wait = true → t.run = .running ∧ t.haltReason = 0 ∧ t.haltWord = 0) ∧
    (s.run = .running → s.wait = false → s.pc.toNat + 1 > 0xFFF →
      t.run = .halted ∧ t.haltReason = 4 ∧ t.haltWord = 0 ∧ t.pc = s.pc) ∧
    (s.run = .running → s.wait = false → s.pc.toNat + 1 ≤ 0xFFF → s.pc.toNat + 2 > 0x200 + s.progLen.toNat →
      t.run = .halted ∧ t.haltReason = 5 ∧ t.haltWord = 0 ∧ t.pc = s.pc) ∧
    (s.Fetches → wordValid s.fetchWord = false →
      t.run = .halted ∧ t.haltReason = 1 ∧ t.haltWord = s.fetchWord ∧ t.pc = s.pc + 2) ∧
    (s.Fetches → s.fetchWord.toNat / 0x1000 = 2 → s.sp.toNat = s.cfg.depth →
      t.run = .halted ∧ t.haltReason = 2 ∧ t.haltWord = 0 ∧ t.pc = s.pc + 2) ∧
    (s.Fetches → s.fetchWord = 0x00EE → s.sp = 0 →
      t.run = .halted ∧ t.haltReason = 3 ∧ t.haltWord = 0 ∧ t.pc = s.pc + 2) ∧
    (s.Fetches → wordValid s.fetchWord = true → ¬ (s.fetchWord.toNat / 0x1000 = 2 ∧ s.sp.toNat = s.cfg.depth) →
      ¬ (s.fetchWord = 0x00EE ∧ s.sp = 0) → t.run = .running ∧ t.haltReason = 0 ∧ t.haltWord = 0)

/-- What the statuses Executed and Waiting mean (30_encoding.md R140): one instruction other than Fx0A or a resolved
key wait, against Fx0A or a poll that saw no press; a step that polls does not fetch. -/
def Obligations.ExecutedAndWaitingMeanWhatTheySay : Prop :=
  ∀ s t : State, step s = .next t →
    (stepStatus s t = .executed →
      (s.wait = true ∧ (∃ k, s.pressed k = true) ∧ t = s.keyWaitPoll) ∨
      (s.Fetches ∧ ∃ i, decode s.fetchWord = .instr i ∧ (∀ x, i ≠ .ldVxK x) ∧ exec i s.advancePc = .next t)) ∧
    (stepStatus s t = .waiting →
      (s.wait = true ∧ (∀ k, s.pressed k = false) ∧ t = s.keyWaitPoll) ∨
      (s.Fetches ∧ ∃ x, decode s.fetchWord = .instr (.ldVxK x) ∧ exec (.ldVxK x) s.advancePc = .next t))

/-- From every state that meets the invariant a step answers a next state: no step faults or is refused. -/
def Obligations.EveryStepAnswersANextState : Prop :=
  ∀ s : State, s.Inv → ∃ t, step s = .next t

/-- "Halted is terminal" (60_exceptions.md R307): whatever events the host issues, the core stays Halted with its
record, its registers, its memory and its display as they are, and every `load` it asks for is refused. -/
def Obligations.HaltedIsTerminalUnderEveryEvent : Prop :=
  ∀ (z z' : Session) (es : List Event), z.Inv → z.state.run = .halted → EventRun z es z' →
    z'.state = { z.state with dt := z'.state.dt, st := z'.state.st, key := z'.state.key } ∧
    ∀ bytes, z'.event (.load bytes) = .refused .loadNotFresh

/-! ### Control transfer -/

/-- JP and JP_V0 (40_flow.md R151, R157): the target is stored as it stands, the sum unmasked. -/
def Obligations.JumpsSetThePc : Prop :=
  ∀ (nnn : Addr) (s : State),
    (∃ t, exec (.jp nnn) s = .next t ∧ Within (footprint s (.jp nnn)) s t ∧ t.pc.toNat = nnn.toNat) ∧
    (∃ t, exec (.jpV0 nnn) s = .next t ∧ Within (footprint s (.jpV0 nnn)) s t ∧
      t.pc.toNat = nnn.toNat + (s.readV 0).toNat)

/-- The four register skips (40_flow.md R153 to R156): two bytes more when the condition holds, else nothing. -/
def Obligations.RegisterSkipsCompareAndSkip : Prop :=
  ∀ (x y : Reg) (nn : Byte) (s : State),
    (∃ t, exec (.seImm x nn) s = .next t ∧ Within (footprint s (.seImm x nn)) s t ∧
      t.pc = if s.readV x = nn then s.pc + 2 else s.pc) ∧
    (∃ t, exec (.sneImm x nn) s = .next t ∧ Within (footprint s (.sneImm x nn)) s t ∧
      t.pc = if s.readV x = nn then s.pc else s.pc + 2) ∧
    (∃ t, exec (.seReg x y) s = .next t ∧ Within (footprint s (.seReg x y)) s t ∧
      t.pc = if s.readV x = s.readV y then s.pc + 2 else s.pc) ∧
    (∃ t, exec (.sneReg x y) s = .next t ∧ Within (footprint s (.sneReg x y)) s t ∧
      t.pc = if s.readV x = s.readV y then s.pc else s.pc + 2)

/-- CALL (40_flow.md R152): the advanced PC is pushed and PC takes nnn; a full stack halts and nothing is written. -/
def Obligations.CallPushesOrOverflows : Prop :=
  ∀ (nnn : Addr) (s : State), s.stack.length = s.cfg.depth →
    (s.sp.toNat < s.cfg.depth → ∃ t, exec (.call nnn) s = .next t ∧ Within (footprint s (.call nnn)) s t ∧
      t.readStack s.sp.toNat = some s.pc ∧ t.sp.toNat = s.sp.toNat + 1 ∧ t.pc.toNat = nnn.toNat) ∧
    (s.sp.toNat = s.cfg.depth →
      exec (.call nnn) s = .next { s with run := .halted, haltReason := 2, haltWord := 0 })

/-- RET (40_flow.md R150): PC takes the popped entry, which keeps its value; an empty stack halts and nothing is
written. -/
def Obligations.ReturnPopsOrUnderflows : Prop :=
  ∀ s : State,
    (s.sp ≠ 0 → s.sp.toNat ≤ s.stack.length → ∃ t, exec .ret s = .next t ∧ Within (footprint s .ret) s t ∧
      t.sp.toNat = s.sp.toNat - 1 ∧ s.readStack t.sp.toNat = some t.pc) ∧
    (s.sp = 0 → exec .ret s = .next { s with run := .halted, haltReason := 3, haltWord := 0 })

/-- The call and return round trip (40_flow.md R159), for a return to the frame of that very call. That SP has not
fallen below its value just after the call in between is the model's reading of R159, not its words (log entry
10). -/
def Obligations.ReturnComesBackToAfterTheCall : Prop :=
  ∀ (s t u r : State) (nnn : Addr), s.Inv → s.Fetches → decode s.fetchWord = .instr (.call nnn) →
    s.sp.toNat < s.cfg.depth → step s = .next t → StepsAbove t.sp.toNat t u → u.sp = t.sp →
    u.Fetches → decode u.fetchWord = .instr .ret → step u = .next r → r.pc = s.pc + 2 ∧ r.sp = s.sp

/-! ### Registers and ALU -/

/-- LD_IMM, ADD_IMM, LD_REG (41_alu.md R182, R183, R184): VF is written only where it is the destination. -/
def Obligations.LoadsAndImmediateAddResult : Prop :=
  ∀ (x y : Reg) (nn : Byte) (s : State),
    (∃ t, exec (.ldImm x nn) s = .next t ∧ Within (footprint s (.ldImm x nn)) s t ∧ t.pc = s.pc ∧
      t.readV x = nn) ∧
    (∃ t, exec (.addImm x nn) s = .next t ∧ Within (footprint s (.addImm x nn)) s t ∧ t.pc = s.pc ∧
      (t.readV x).toNat = ((s.readV x).toNat + nn.toNat) % 256) ∧
    (∃ t, exec (.ldReg x y) s = .next t ∧ Within (footprint s (.ldReg x y)) s t ∧ t.pc = s.pc ∧
      t.readV x = s.readV y)

/-- OR, AND, XOR, bit by bit (41_alu.md R185, R186, R187): VF is unchanged unless it is the destination. -/
def Obligations.LogicResultsBitByBit : Prop :=
  ∀ (x y : Reg) (s : State),
    (∃ t, exec (.orReg x y) s = .next t ∧ Within (footprint s (.orReg x y)) s t ∧ t.pc = s.pc ∧
      ∀ k < 8, (t.readV x).getLsbD k = ((s.readV x).getLsbD k || (s.readV y).getLsbD k)) ∧
    (∃ t, exec (.andReg x y) s = .next t ∧ Within (footprint s (.andReg x y)) s t ∧ t.pc = s.pc ∧
      ∀ k < 8, (t.readV x).getLsbD k = ((s.readV x).getLsbD k && (s.readV y).getLsbD k)) ∧
    (∃ t, exec (.xorReg x y) s = .next t ∧ Within (footprint s (.xorReg x y)) s t ∧ t.pc = s.pc ∧
      ∀ k < 8, (t.readV x).getLsbD k = ((s.readV x).getLsbD k ^^ (s.readV y).getLsbD k))

/-- ADD_REG (41_alu.md R188, R181): the low 8 bits to Vx, then the carry to VF, so with x = 15 VF ends as the
carry. -/
def Obligations.AddRegistersWithCarry : Prop :=
  ∀ (x y : Reg) (s : State),
    ∃ t, exec (.addReg x y) s = .next t ∧ Within (footprint s (.addReg x y)) s t ∧ t.pc = s.pc ∧
      (x ≠ 15 → (t.readV x).toNat = ((s.readV x).toNat + (s.readV y).toNat) % 256) ∧
      t.readV 15 = if (s.readV x).toNat + (s.readV y).toNat > 255 then 1 else 0

/-- SUB and SUBN (41_alu.md R189, R191, R181): the difference mod 256, VF = 1 when there is no borrow, VF last. -/
def Obligations.SubtractionsWithNoBorrow : Prop :=
  ∀ (x y : Reg) (s : State),
    (∃ t, exec (.sub x y) s = .next t ∧ Within (footprint s (.sub x y)) s t ∧ t.pc = s.pc ∧
      (x ≠ 15 → ((t.readV x).toNat : Int) = (((s.readV x).toNat : Int) - (s.readV y).toNat) % 256) ∧
      t.readV 15 = if (s.readV x).toNat ≥ (s.readV y).toNat then 1 else 0) ∧
    (∃ t, exec (.subn x y) s = .next t ∧ Within (footprint s (.subn x y)) s t ∧ t.pc = s.pc ∧
      (x ≠ 15 → ((t.readV x).toNat : Int) = (((s.readV y).toNat : Int) - (s.readV x).toNat) % 256) ∧
      t.readV 15 = if (s.readV y).toNat ≥ (s.readV x).toNat then 1 else 0)

/-- SHR and SHL (41_alu.md R190, R192, R181): Vx by one bit, VF the bit shifted out, VF last; every value of y gives
the same result. -/
def Obligations.ShiftsByOneIgnoringVy : Prop :=
  ∀ (x y : Reg) (s : State),
    (∃ t, exec (.shr x y) s = .next t ∧ Within (footprint s (.shr x y)) s t ∧ t.pc = s.pc ∧
      (x ≠ 15 → (t.readV x).toNat = (s.readV x).toNat / 2) ∧ (t.readV 15).toNat = (s.readV x).toNat % 2 ∧
      ∀ y', exec (.shr x y') s = .next t) ∧
    (∃ t, exec (.shl x y) s = .next t ∧ Within (footprint s (.shl x y)) s t ∧ t.pc = s.pc ∧
      (x ≠ 15 → (t.readV x).toNat = (s.readV x).toNat * 2 % 256) ∧
      (t.readV 15).toNat = (s.readV x).toNat / 128 ∧ ∀ y', exec (.shl x y') s = .next t)

/-- RND (41_alu.md R193): Vx is the draw masked by nn. The draw is the free value `Config.randomByte` at the draw
counter, which the instruction advances, so that the next draw is another one: the counter is the model's choice
(log entry 1). The result has no bit that is clear in nn. -/
def Obligations.RandomByteIsMasked : Prop :=
  ∀ (x : Reg) (nn : Byte) (s : State),
    ∃ t, exec (.rnd x nn) s = .next t ∧ Within (footprint s (.rnd x nn)) s t ∧ t.pc = s.pc ∧
      t.readV x = Config.randomByte s.draws &&& nn ∧ t.draws = s.draws + 1 ∧
      ∀ k < 8, nn.getLsbD k = false → (t.readV x).getLsbD k = false

/-! ### Index register and memory -/

/-- LD_I, ADD_I_VX, LD_F_VX (42_index_memory.md R221, R222, R223). VF is written by ADD_I_VX only where
FX1E_SETS_VF is true, last, with the sum's overflow of the 12-bit space. -/
def Obligations.IndexRegisterResults : Prop :=
  ∀ (nnn : Addr) (x : Reg) (s : State),
    (∃ t, exec (.ldI nnn) s = .next t ∧ Within (footprint s (.ldI nnn)) s t ∧ t.pc = s.pc ∧
      t.idx.toNat = nnn.toNat) ∧
    (∃ t, exec (.addIVx x) s = .next t ∧ Within (footprint s (.addIVx x)) s t ∧ t.pc = s.pc ∧
      t.idx.toNat = (s.idx.toNat + (s.readV x).toNat) % 0x10000 ∧
      t.readV 15 = if s.cfg.fx1eSetsVf then (if s.idx.toNat + (s.readV x).toNat > 0xFFF then 1 else 0)
        else s.readV 15) ∧
    (∃ t, exec (.ldFVx x) s = .next t ∧ Within (footprint s (.ldFVx x)) s t ∧ t.pc = s.pc ∧
      t.idx.toNat = 0x050 + (s.readV x).toNat * 5)

/-- LD_B_VX (42_index_memory.md R224): hundreds, tens and ones at I, I+1, I+2, each address masked to 12 bits; I is
unchanged. -/
def Obligations.DecimalDigitsAreStored : Prop :=
  ∀ (x : Reg) (s : State), s.mem.wf = true →
    ∃ t, exec (.ldBVx x) s = .next t ∧ Within (footprint s (.ldBVx x)) s t ∧ t.pc = s.pc ∧
      (t.readMem (BitVec.ofNat 12 s.idx.toNat)).toNat = (s.readV x).toNat / 100 ∧
      (t.readMem (BitVec.ofNat 12 (s.idx.toNat + 1))).toNat = (s.readV x).toNat / 10 % 10 ∧
      (t.readMem (BitVec.ofNat 12 (s.idx.toNat + 2))).toNat = (s.readV x).toNat % 10

/-- LD_MEM_VX (42_index_memory.md R225): V0..Vx, both inclusive, at I onward, each address masked; I is unchanged. -/
def Obligations.RegistersAreStored : Prop :=
  ∀ (x : Reg) (s : State), s.mem.wf = true →
    ∃ t, exec (.ldMemVx x) s = .next t ∧ Within (footprint s (.ldMemVx x)) s t ∧ t.pc = s.pc ∧
      ∀ k ≤ x, t.readMem (BitVec.ofNat 12 (s.idx.toNat + k.val)) = s.readV k

/-- LD_VX_MEM (42_index_memory.md R226): V0..Vx, both inclusive, from I onward, each address masked; I is
unchanged. -/
def Obligations.RegistersAreLoaded : Prop :=
  ∀ (x : Reg) (s : State),
    ∃ t, exec (.ldVxMem x) s = .next t ∧ Within (footprint s (.ldVxMem x)) s t ∧ t.pc = s.pc ∧
      ∀ k ≤ x, t.readV k = s.readMem (BitVec.ofNat 12 (s.idx.toNat + k.val))

/-- Registers saved by LD_MEM_VX come back by LD_VX_MEM with the same I, whatever the registers became in between
(42_index_memory.md R225, R226). -/
def Obligations.SavedRegistersAreRestored : Prop :=
  ∀ (x : Reg) (s t u : State), s.mem.wf = true → exec (.ldMemVx x) s = .next t → u.mem = t.mem → u.idx = s.idx →
    ∃ r, exec (.ldVxMem x) u = .next r ∧ ∀ k ≤ x, r.readV k = s.readV k

/-- A store is seen by the next fetch (20_memory.md R100): in any state with the memory that LD_MEM_VX or LD_B_VX left,
the fetch at any PC reads, for each of its two bytes by itself, the byte stored there, or the old one where none was
stored. -/
def Obligations.StoredBytesAreFetchedNext : Prop :=
  ∀ (x : Reg) (s t u : State) (b b' : Byte), s.mem.wf = true → u.mem = t.mem → u.Fetches →
    let a := BitVec.ofNat 12 u.pc.toNat
    let a' := BitVec.ofNat 12 (u.pc.toNat + 1)
    let word : Word := BitVec.ofNat 16 (256 * b.toNat + b'.toNat)
    let digit (k : Nat) : Byte := BitVec.ofNat 8 ((s.readV x).toNat / 10 ^ (2 - k) % 10)
    (exec (.ldMemVx x) s = .next t →
      s.HoldsAfterStore (x.val + 1) (fun k => s.readV (regOfNat k)) a b →
      s.HoldsAfterStore (x.val + 1) (fun k => s.readV (regOfNat k)) a' b' → u.fetch = .ok word) ∧
    (exec (.ldBVx x) s = .next t → s.HoldsAfterStore 3 digit a b → s.HoldsAfterStore 3 digit a' b' →
      u.fetch = .ok word)

/-- Memory is data: two canonical memories that read alike at every address are the same list. -/
def Obligations.CanonicalMemoriesThatReadAlikeAreEqual : Prop :=
  ∀ m m' : Memory, m.wf = true → m'.wf = true → (∀ a : Addr, m.read a.toNat = m'.read a.toNat) → m = m'

/-! ### Display -/

/-- CLS (43_display.md R241). -/
def Obligations.ClearTurnsEveryPixelOff : Prop :=
  ∀ s : State, ∃ t, exec .cls s = .next t ∧ Within (footprint s .cls) s t ∧ t.pc = s.pc ∧
    ∀ px py, t.pixel px py = false

/-- DRW (43_display.md R242 to R247), for either edge policy: the drawing loop inverts exactly the pixels the sprite
covers, and VF is 1 exactly when a covered pixel was on. -/
def Obligations.DrawInvertsExactlyTheCoveredPixels : Prop :=
  ∀ (x y : Reg) (n : Nibble) (s : State),
    ∃ t, exec (.drw x y n) s = .next t ∧ Within (footprint s (.drw x y n)) s t ∧ t.pc = s.pc ∧
      (∀ px py, s.drawCovers x y n px py → t.pixel px py = !s.pixel px py) ∧
      (∀ px py, ¬ s.drawCovers x y n px py → t.pixel px py = s.pixel px py) ∧
      ((∃ px py, s.drawCovers x y n px py ∧ s.pixel px py = true) → t.readV 15 = 1) ∧
      (¬ (∃ px py, s.drawCovers x y n px py ∧ s.pixel px py = true) → t.readV 15 = 0)

/-- Drawing twice (43_display.md R248): the second draw of the same sprite at the same place restores the display.
It reports a collision when the first draw set some pixel ("since every touched pixel was set by the first draw"),
that is, when some covered pixel was off before; it reports none when every covered pixel was on before, or when the
sprite places no pixel, which reports 0 both times. R248 says that its law, with the collision on the second draw,
holds whenever the sprite places a pixel; where every covered pixel was on, R242 and R247 give no collision, and the
statement follows them (log entry 9). -/
def Obligations.DrawingTwiceRestoresTheDisplay : Prop :=
  ∀ (x y : Reg) (n : Nibble) (s t t' : State), exec (.drw x y n) s = .next t →
    t'.disp = t.disp → t'.mem = t.mem → t'.idx = t.idx → t'.cfg = t.cfg →
    t'.readV x = s.readV x → t'.readV y = s.readV y →
    ∃ u, exec (.drw x y n) t' = .next u ∧ u.disp = s.disp ∧
      ((∃ px py, s.drawCovers x y n px py ∧ s.pixel px py = false) → u.readV 15 = 1) ∧
      ((∀ px py, s.drawCovers x y n px py → s.pixel px py = true) → u.readV 15 = 0) ∧
      ((∀ px py, ¬ s.drawCovers x y n px py) → t.readV 15 = 0 ∧ u.readV 15 = 0)

/-- The sentence of 43_display.md R248 taken without its reason: that the second draw reports a collision whenever
the sprite places a pixel, whatever was on the display before. EXPECTED TO FAIL: where every covered pixel was on, the
first draw clears them and the second sets them, which R242 and R247 call no collision (log entry 9). -/
def Obligations.SecondDrawAlwaysReportsACollision : Prop :=
  ∀ (x y : Reg) (n : Nibble) (s t u : State), x ≠ 15 → y ≠ 15 → exec (.drw x y n) s = .next t →
    exec (.drw x y n) t = .next u → (∃ px py, s.drawCovers x y n px py) → u.readV 15 = 1

/-! ### Keys and timers -/

/-- SKP and SKNP (44_keys_timers.md R260, R261, R262): the key is numbered by the low nibble of Vx. -/
def Obligations.KeySkipsTestTheLevel : Prop :=
  ∀ (x : Reg) (k : Key) (s : State), k.val = (s.readV x).toNat % 16 →
    (∃ t, exec (.skp x) s = .next t ∧ Within (footprint s (.skp x)) s t ∧
      t.pc = if s.key[k] = true then s.pc + 2 else s.pc) ∧
    (∃ t, exec (.sknp x) s = .next t ∧ Within (footprint s (.sknp x)) s t ∧
      t.pc = if s.key[k] = true then s.pc else s.pc + 2)

/-- LD_VX_DT, LD_DT_VX, LD_ST_VX (44_keys_timers.md R263, R268, R269), and the sound output after the last
(10_state.md R44). -/
def Obligations.TimerInstructionResults : Prop :=
  ∀ (x : Reg) (s : State),
    (∃ t, exec (.ldVxDt x) s = .next t ∧ Within (footprint s (.ldVxDt x)) s t ∧ t.pc = s.pc ∧ t.readV x = s.dt) ∧
    (∃ t, exec (.ldDtVx x) s = .next t ∧ Within (footprint s (.ldDtVx x)) s t ∧ t.pc = s.pc ∧
      t.dt = s.readV x) ∧
    (∃ t, exec (.ldStVx x) s = .next t ∧ Within (footprint s (.ldStVx x)) s t ∧ t.pc = s.pc ∧
      t.st = s.readV x ∧ (t.soundOn = true ↔ s.readV x ≠ 0))

/-- LD_VX_K (44_keys_timers.md R264): the key wait begins, with the keys as they are sampled, RUN unchanged. -/
def Obligations.KeyWaitBegins : Prop :=
  ∀ (x : Reg) (s : State),
    ∃ t, exec (.ldVxK x) s = .next t ∧ Within (footprint s (.ldVxK x)) s t ∧ t.pc = s.pc ∧
      t.wait = true ∧ t.waitReg = x ∧ t.keySnap = s.key ∧ (s.run = .running → stepStatus s t = .waiting)

/-- KeyWaitPoll (44_keys_timers.md R265, R266): with no new press the step samples the keys and waits on; else it
writes the lowest-numbered newly pressed key, ends the wait, samples the keys, and writes nothing else. -/
def Obligations.KeyWaitPollTakesTheLowestNewKey : Prop :=
  ∀ s : State, s.run = .running → s.wait = true →
    ((∀ k : Key, ¬ (s.key[k] = true ∧ s.keySnap[k] = false)) →
      step s = .next { s with keySnap := s.key } ∧ stepStatus s { s with keySnap := s.key } = .waiting) ∧
    (∀ k : Key, s.key[k] = true → s.keySnap[k] = false →
      (∀ j < k, ¬ (s.key[j] = true ∧ s.keySnap[j] = false)) →
      ∃ t, step s = .next t ∧ stepStatus s t = .executed ∧ (t.readV s.waitReg).toNat = k.val ∧
        (∀ r, r ≠ s.waitReg → t.readV r = s.readV r) ∧
        t = { s with v := t.v, wait := false, keySnap := s.key })

/-- A pause does not disturb the instruction stream (60_exceptions.md R333, 44_keys_timers.md R267): after a pause,
any steps, ticks and key writes, and a resume, the state is as it was but for the keys the host wrote and, where
TIMERS_WHILE_PAUSED is true, the timers. -/
def Obligations.PauseDoesNotDisturbTheStream : Prop :=
  ∀ (z z' : Session) (es : List Event), z.state.run = .running →
    (∀ e ∈ es, e = .step ∨ e = .tick ∨ ∃ keys, e = .writeKeys keys) →
    EventRun z (.setRunState .paused :: (es ++ [.setRunState .running])) z' →
    z'.state = { z.state with key := z'.state.key, dt := z'.state.dt, st := z'.state.st } ∧
    (z.state.cfg.timersWhilePaused = false → z'.state.dt = z.state.dt ∧ z'.state.st = z.state.st)

/-- `tick` (60_exceptions.md R320, R321): both timers count down by 1, floored at 0, in every run-state but Paused,
where they do so only if TIMERS_WHILE_PAUSED; nothing else changes. -/
def Obligations.TickCountsBothTimersDown : Prop :=
  ∀ s : State,
    s.tick = { s with dt := s.tick.dt, st := s.tick.st } ∧
    ((s.run ≠ .paused ∨ s.cfg.timersWhilePaused = true) →
      s.tick.dt.toNat = s.dt.toNat - 1 ∧ s.tick.st.toNat = s.st.toNat - 1) ∧
    (s.run = .paused → s.cfg.timersWhilePaused = false → s.tick = s)

/-- A timer of value d lasts d ticks, and 0 is absorbing (60_exceptions.md R320, 70_reset_and_hazards.md R365). -/
def Obligations.TimerOfValueDLastsDTicks : Prop :=
  ∀ (s : State) (n : Nat), s.run ≠ .paused →
    (s.ticks n).dt.toNat = s.dt.toNat - n ∧ (s.ticks n).st.toNat = s.st.toNat - n ∧
    ((s.ticks n).soundOn = true ↔ n < s.st.toNat)

/-! ### Reset, load and the run-state -/

/-- The state after construction (70_reset_and_hazards.md R350), for every setting of the parameters. The draw
counter and the parameters are the model's own fields (log entries 1, 2) and nothing is said of them. -/
def Obligations.ConstructionLeavesTheResetValues : Prop :=
  ∀ p : Params, let s := State.construct p
    (∀ j (h : j < 80), s.readMem (BitVec.ofNat 12 (0x050 + j)) = p.font[j]) ∧
    (∀ a : Addr, (a.toNat < 0x050 ∨ 0x09F < a.toNat) → s.readMem a = 0) ∧
    (∀ r, s.readV r = 0) ∧ s.idx = 0 ∧ s.pc = 0 ∧ s.sp = 0 ∧ s.stack.length = p.depth ∧ (∀ r ∈ s.stack, r = 0) ∧
    s.dt = 0 ∧ s.st = 0 ∧ (∀ px py, s.pixel px py = false) ∧ (∀ k, s.keyDown k = false) ∧ s.progLen = 0 ∧
    s.wait = false ∧ s.waitReg = 0 ∧ (∀ k : Key, s.keySnap[k] = false) ∧ s.haltReason = 0 ∧ s.haltWord = 0 ∧
    s.run = .paused

/-- `load` of an image that fits, on a fresh session (70_reset_and_hazards.md R352, R353): the image at 0x200, the
font in place, PROG_LEN, PC and RUN, and nothing else. -/
def Obligations.LoadPlacesTheProgram : Prop :=
  ∀ (p : Params) (keys : Keys) (bytes : List Byte), bytes.length ≤ 3584 →
    let s := (State.construct p).setKey keys
    ∃ t, Session.event { state := s, fresh := true } (.load bytes) = .next ({ state := t, fresh := false }, .loadOk) ∧
      (∀ j (h : j < bytes.length), t.readMem (BitVec.ofNat 12 (0x200 + j)) = bytes[j]) ∧
      (∀ j (h : j < 80), t.readMem (BitVec.ofNat 12 (0x050 + j)) = p.font[j]) ∧
      (∀ a : Addr, (a.toNat < 0x200 ∨ 0x200 + bytes.length ≤ a.toNat) → t.readMem a = s.readMem a) ∧
      t.progLen.toNat = bytes.length ∧ t.pc = 0x0200 ∧ t.run = .running ∧
      t = { s with mem := t.mem, progLen := t.progLen, pc := t.pc, run := t.run }

/-- A `load` that does not fit changes nothing and is no runtime error (70_reset_and_hazards.md R355,
60_exceptions.md R306); on a session that is not fresh it is refused (70_reset_and_hazards.md R356). -/
def Obligations.LoadFailsOrIsRefused : Prop :=
  ∀ (z : Session) (bytes : List Byte),
    (z.fresh = true → bytes.length > 3584 → z.event (.load bytes) = .next (z, .programTooLarge)) ∧
    (z.fresh = false → z.event (.load bytes) = .refused .loadNotFresh)

/-- The second installation of the font "writes the same bytes and changes nothing" (70_reset_and_hazards.md R354):
memory after a load is memory after storing the image alone, as data. -/
def Obligations.SecondFontInstallationChangesNothing : Prop :=
  ∀ (p : Params) (bytes : List Byte), bytes.length ≤ 3584 →
    ((State.construct p).loadImage bytes).mem = ((State.construct p).storeBytes 0x200 0 bytes).mem

/-- Resuming without a load (70_reset_and_hazards.md R359): the core executes from 0x000 and halts with
InvalidOpcode(0x0000). -/
def Obligations.ResumeWithoutLoadHalts : Prop :=
  ∀ (p : Params) (keys : Keys), ∃ z z' : Session,
    Session.event { state := (State.construct p).setKey keys, fresh := true } (.setRunState .running)
      = .next (z, .done) ∧
    z.event .step = .next (z', .status (.halted 1 0x0000)) ∧ z'.state.run = .halted ∧ z'.state.haltReason = 1 ∧
    z'.state.haltWord = 0x0000 ∧ z'.state.pc = 0x0002

/-- The run-state machine (60_exceptions.md R330 to R332): every change of RUN is one of the table's, by the table's
trigger, and only the engine's step enters Halted. -/
def Obligations.RunStateChangesOnlyAsTheTableSays : Prop :=
  ∀ (z z' : Session) (e : Event) (r : Response), z.Inv → z.event e = .next (z', r) →
    z'.state.run = z.state.run ∨
    (z.state.run = .paused ∧ z'.state.run = .running ∧
      ((∃ bytes, e = .load bytes ∧ z.fresh = true) ∨ e = .setRunState .running)) ∨
    (z.state.run = .running ∧ z'.state.run = .paused ∧ e = .setRunState .paused) ∨
    (z.state.run = .running ∧ z'.state.run = .halted ∧ e = .step ∧
      r = .status (.halted z'.state.haltReason z'.state.haltWord))

/-- `set_run_state` (60_exceptions.md R332): Running and Paused as asked, nothing when Halted, nothing but RUN ever,
and a request for Halted is refused. -/
def Obligations.SetRunStateIsPauseAndResumeOnly : Prop :=
  ∀ z : Session, z.event (.setRunState .halted) = .refused .haltedRequested ∧
    ∀ r : RunState, r ≠ .halted → ∃ z', z.event (.setRunState r) = .next (z', .done) ∧
      z'.state = { z.state with run := if z.state.run = .halted then .halted else r }

/-! ### Invariants and whole-machine rules -/

/-- The invariant holds at reset. -/
def Obligations.ResetMeetsTheInvariant : Prop :=
  State.reset.Inv ∧ ∀ p, (Session.new p).Inv

/-- Every step keeps the invariant. -/
def Obligations.EveryStepKeepsTheInvariant : Prop :=
  ∀ s t : State, s.Inv → step s = .next t → t.Inv

/-- Every event of the host keeps the invariant, in any order of events (10_state.md R59). -/
def Obligations.EveryRunOfEventsKeepsTheInvariant : Prop :=
  ∀ (z z' : Session) (es : List Event), z.Inv → EventRun z es z' → z'.Inv

/-- What each instruction leaves unchanged, for all 34: the right column of 10_state.md R32 for the registers,
20_memory.md R89 for memory, and for the rest of the state the instruction's own rule. A step calls `exec` on
Running states alone (30_encoding.md R135), and an instruction that halts is the business of
`RuntimeErrorsArePrecise`. -/
def Obligations.EveryInstructionStaysWithinItsFootprint : Prop :=
  ∀ (i : Instr) (s t : State), s.run = .running → s.mem.wf = true → exec i s = .next t → t.run = .running →
    Within (footprint s i) s t

/-- What a step never writes: the keys are the host's alone (10_state.md R47), PROG_LEN is written only by `load`
(10_state.md R50), and the parameters by nothing (log entry 2). -/
def Obligations.StepNeverWritesKeysLengthOrParameters : Prop :=
  ∀ s t : State, step s = .next t → t.key = s.key ∧ t.progLen = s.progLen ∧ t.cfg = s.cfg

/-- "Only 00E0 and Dxyn write DISP" (43_display.md R240), over steps and over the host's other events. -/
def Obligations.OnlyClearAndDrawWriteTheDisplay : Prop :=
  ∀ (z z' : Session) (e : Event) (r : Response), z.event e = .next (z', r) → z'.state.disp ≠ z.state.disp →
    e = .step ∧ z.state.Fetches ∧
      (z.state.fetchWord = 0x00E0 ∨ z.state.fetchWord.toNat / 0x1000 = 0xD)

/-- "Only 2nnn (which increments it) and 00EE (which decrements it) change SP" (10_state.md R40), and only 2nnn
writes an entry of STACK (10_state.md R41). -/
def Obligations.OnlyCallAndReturnMoveTheStackPointer : Prop :=
  ∀ s t : State, s.Inv → step s = .next t →
    (t.sp = s.sp ∨
      (s.Fetches ∧ s.fetchWord.toNat / 0x1000 = 2 ∧ t.sp.toNat = s.sp.toNat + 1) ∨
      (s.Fetches ∧ s.fetchWord = 0x00EE ∧ t.sp.toNat + 1 = s.sp.toNat)) ∧
    (t.stack = s.stack ∨ (s.Fetches ∧ s.fetchWord.toNat / 0x1000 = 2))

/-- The bits of I above the address space are invisible (10_state.md R35): where FX1E_SETS_VF is false, two runs from
states that differ only in them end alike after any number of steps. -/
def Obligations.UpperIndexBitsAreInvisible : Prop :=
  ∀ (s s' : State) (n : Nat), s.cfg.fx1eSetsVf = false → SameAddresses s s' →
    EndAlike (Sys2Proof.core.run n s) (Sys2Proof.core.run n s')

/-- A word placed by `withFetchWord` is what the very next step runs, whatever the state (log entry 8). -/
def Obligations.PlacedWordIsRunNext : Prop :=
  ∀ (s : State) (w : Word) (i : Instr), s.mem.wf = true → decode w = .instr i →
    let t := s.withFetchWord 16 w.toNat
    t.Fetches ∧ step t = exec i (t.setPc (t.pc + 2))
end

