-- ==== Sys2Proof/Laws/State.lean ====
section
/-! SUPPORT. One lemma per field per update of State, each true by rfl. -/

namespace Sys2Proof.Machine

/-! `setMem` -/
@[simp] theorem State.setMem_cfg (s : State) (mem : Memory) : (s.setMem mem).cfg = s.cfg := rfl
@[simp] theorem State.setMem_mem (s : State) (mem : Memory) : (s.setMem mem).mem = mem := rfl
@[simp] theorem State.setMem_v (s : State) (mem : Memory) : (s.setMem mem).v = s.v := rfl
@[simp] theorem State.setMem_idx (s : State) (mem : Memory) : (s.setMem mem).idx = s.idx := rfl
@[simp] theorem State.setMem_pc (s : State) (mem : Memory) : (s.setMem mem).pc = s.pc := rfl
@[simp] theorem State.setMem_sp (s : State) (mem : Memory) : (s.setMem mem).sp = s.sp := rfl
@[simp] theorem State.setMem_stack (s : State) (mem : Memory) : (s.setMem mem).stack = s.stack := rfl
@[simp] theorem State.setMem_dt (s : State) (mem : Memory) : (s.setMem mem).dt = s.dt := rfl
@[simp] theorem State.setMem_st (s : State) (mem : Memory) : (s.setMem mem).st = s.st := rfl
@[simp] theorem State.setMem_disp (s : State) (mem : Memory) : (s.setMem mem).disp = s.disp := rfl
@[simp] theorem State.setMem_key (s : State) (mem : Memory) : (s.setMem mem).key = s.key := rfl
@[simp] theorem State.setMem_run (s : State) (mem : Memory) : (s.setMem mem).run = s.run := rfl
@[simp] theorem State.setMem_haltReason (s : State) (mem : Memory) : (s.setMem mem).haltReason = s.haltReason := rfl
@[simp] theorem State.setMem_haltWord (s : State) (mem : Memory) : (s.setMem mem).haltWord = s.haltWord := rfl
@[simp] theorem State.setMem_progLen (s : State) (mem : Memory) : (s.setMem mem).progLen = s.progLen := rfl
@[simp] theorem State.setMem_wait (s : State) (mem : Memory) : (s.setMem mem).wait = s.wait := rfl
@[simp] theorem State.setMem_waitReg (s : State) (mem : Memory) : (s.setMem mem).waitReg = s.waitReg := rfl
@[simp] theorem State.setMem_keySnap (s : State) (mem : Memory) : (s.setMem mem).keySnap = s.keySnap := rfl
@[simp] theorem State.setMem_draws (s : State) (mem : Memory) : (s.setMem mem).draws = s.draws := rfl

/-! `setV` -/
@[simp] theorem State.setV_cfg (s : State) (v : Vector Byte 16) : (s.setV v).cfg = s.cfg := rfl
@[simp] theorem State.setV_mem (s : State) (v : Vector Byte 16) : (s.setV v).mem = s.mem := rfl
@[simp] theorem State.setV_v (s : State) (v : Vector Byte 16) : (s.setV v).v = v := rfl
@[simp] theorem State.setV_idx (s : State) (v : Vector Byte 16) : (s.setV v).idx = s.idx := rfl
@[simp] theorem State.setV_pc (s : State) (v : Vector Byte 16) : (s.setV v).pc = s.pc := rfl
@[simp] theorem State.setV_sp (s : State) (v : Vector Byte 16) : (s.setV v).sp = s.sp := rfl
@[simp] theorem State.setV_stack (s : State) (v : Vector Byte 16) : (s.setV v).stack = s.stack := rfl
@[simp] theorem State.setV_dt (s : State) (v : Vector Byte 16) : (s.setV v).dt = s.dt := rfl
@[simp] theorem State.setV_st (s : State) (v : Vector Byte 16) : (s.setV v).st = s.st := rfl
@[simp] theorem State.setV_disp (s : State) (v : Vector Byte 16) : (s.setV v).disp = s.disp := rfl
@[simp] theorem State.setV_key (s : State) (v : Vector Byte 16) : (s.setV v).key = s.key := rfl
@[simp] theorem State.setV_run (s : State) (v : Vector Byte 16) : (s.setV v).run = s.run := rfl
@[simp] theorem State.setV_haltReason (s : State) (v : Vector Byte 16) : (s.setV v).haltReason = s.haltReason := rfl
@[simp] theorem State.setV_haltWord (s : State) (v : Vector Byte 16) : (s.setV v).haltWord = s.haltWord := rfl
@[simp] theorem State.setV_progLen (s : State) (v : Vector Byte 16) : (s.setV v).progLen = s.progLen := rfl
@[simp] theorem State.setV_wait (s : State) (v : Vector Byte 16) : (s.setV v).wait = s.wait := rfl
@[simp] theorem State.setV_waitReg (s : State) (v : Vector Byte 16) : (s.setV v).waitReg = s.waitReg := rfl
@[simp] theorem State.setV_keySnap (s : State) (v : Vector Byte 16) : (s.setV v).keySnap = s.keySnap := rfl
@[simp] theorem State.setV_draws (s : State) (v : Vector Byte 16) : (s.setV v).draws = s.draws := rfl

/-! `setIdx` -/
@[simp] theorem State.setIdx_cfg (s : State) (idx : Word) : (s.setIdx idx).cfg = s.cfg := rfl
@[simp] theorem State.setIdx_mem (s : State) (idx : Word) : (s.setIdx idx).mem = s.mem := rfl
@[simp] theorem State.setIdx_v (s : State) (idx : Word) : (s.setIdx idx).v = s.v := rfl
@[simp] theorem State.setIdx_idx (s : State) (idx : Word) : (s.setIdx idx).idx = idx := rfl
@[simp] theorem State.setIdx_pc (s : State) (idx : Word) : (s.setIdx idx).pc = s.pc := rfl
@[simp] theorem State.setIdx_sp (s : State) (idx : Word) : (s.setIdx idx).sp = s.sp := rfl
@[simp] theorem State.setIdx_stack (s : State) (idx : Word) : (s.setIdx idx).stack = s.stack := rfl
@[simp] theorem State.setIdx_dt (s : State) (idx : Word) : (s.setIdx idx).dt = s.dt := rfl
@[simp] theorem State.setIdx_st (s : State) (idx : Word) : (s.setIdx idx).st = s.st := rfl
@[simp] theorem State.setIdx_disp (s : State) (idx : Word) : (s.setIdx idx).disp = s.disp := rfl
@[simp] theorem State.setIdx_key (s : State) (idx : Word) : (s.setIdx idx).key = s.key := rfl
@[simp] theorem State.setIdx_run (s : State) (idx : Word) : (s.setIdx idx).run = s.run := rfl
@[simp] theorem State.setIdx_haltReason (s : State) (idx : Word) : (s.setIdx idx).haltReason = s.haltReason := rfl
@[simp] theorem State.setIdx_haltWord (s : State) (idx : Word) : (s.setIdx idx).haltWord = s.haltWord := rfl
@[simp] theorem State.setIdx_progLen (s : State) (idx : Word) : (s.setIdx idx).progLen = s.progLen := rfl
@[simp] theorem State.setIdx_wait (s : State) (idx : Word) : (s.setIdx idx).wait = s.wait := rfl
@[simp] theorem State.setIdx_waitReg (s : State) (idx : Word) : (s.setIdx idx).waitReg = s.waitReg := rfl
@[simp] theorem State.setIdx_keySnap (s : State) (idx : Word) : (s.setIdx idx).keySnap = s.keySnap := rfl
@[simp] theorem State.setIdx_draws (s : State) (idx : Word) : (s.setIdx idx).draws = s.draws := rfl

/-! `setPc` -/
@[simp] theorem State.setPc_cfg (s : State) (pc : Word) : (s.setPc pc).cfg = s.cfg := rfl
@[simp] theorem State.setPc_mem (s : State) (pc : Word) : (s.setPc pc).mem = s.mem := rfl
@[simp] theorem State.setPc_v (s : State) (pc : Word) : (s.setPc pc).v = s.v := rfl
@[simp] theorem State.setPc_idx (s : State) (pc : Word) : (s.setPc pc).idx = s.idx := rfl
@[simp] theorem State.setPc_pc (s : State) (pc : Word) : (s.setPc pc).pc = pc := rfl
@[simp] theorem State.setPc_sp (s : State) (pc : Word) : (s.setPc pc).sp = s.sp := rfl
@[simp] theorem State.setPc_stack (s : State) (pc : Word) : (s.setPc pc).stack = s.stack := rfl
@[simp] theorem State.setPc_dt (s : State) (pc : Word) : (s.setPc pc).dt = s.dt := rfl
@[simp] theorem State.setPc_st (s : State) (pc : Word) : (s.setPc pc).st = s.st := rfl
@[simp] theorem State.setPc_disp (s : State) (pc : Word) : (s.setPc pc).disp = s.disp := rfl
@[simp] theorem State.setPc_key (s : State) (pc : Word) : (s.setPc pc).key = s.key := rfl
@[simp] theorem State.setPc_run (s : State) (pc : Word) : (s.setPc pc).run = s.run := rfl
@[simp] theorem State.setPc_haltReason (s : State) (pc : Word) : (s.setPc pc).haltReason = s.haltReason := rfl
@[simp] theorem State.setPc_haltWord (s : State) (pc : Word) : (s.setPc pc).haltWord = s.haltWord := rfl
@[simp] theorem State.setPc_progLen (s : State) (pc : Word) : (s.setPc pc).progLen = s.progLen := rfl
@[simp] theorem State.setPc_wait (s : State) (pc : Word) : (s.setPc pc).wait = s.wait := rfl
@[simp] theorem State.setPc_waitReg (s : State) (pc : Word) : (s.setPc pc).waitReg = s.waitReg := rfl
@[simp] theorem State.setPc_keySnap (s : State) (pc : Word) : (s.setPc pc).keySnap = s.keySnap := rfl
@[simp] theorem State.setPc_draws (s : State) (pc : Word) : (s.setPc pc).draws = s.draws := rfl

/-! `setSp` -/
@[simp] theorem State.setSp_cfg (s : State) (sp : Byte) : (s.setSp sp).cfg = s.cfg := rfl
@[simp] theorem State.setSp_mem (s : State) (sp : Byte) : (s.setSp sp).mem = s.mem := rfl
@[simp] theorem State.setSp_v (s : State) (sp : Byte) : (s.setSp sp).v = s.v := rfl
@[simp] theorem State.setSp_idx (s : State) (sp : Byte) : (s.setSp sp).idx = s.idx := rfl
@[simp] theorem State.setSp_pc (s : State) (sp : Byte) : (s.setSp sp).pc = s.pc := rfl
@[simp] theorem State.setSp_sp (s : State) (sp : Byte) : (s.setSp sp).sp = sp := rfl
@[simp] theorem State.setSp_stack (s : State) (sp : Byte) : (s.setSp sp).stack = s.stack := rfl
@[simp] theorem State.setSp_dt (s : State) (sp : Byte) : (s.setSp sp).dt = s.dt := rfl
@[simp] theorem State.setSp_st (s : State) (sp : Byte) : (s.setSp sp).st = s.st := rfl
@[simp] theorem State.setSp_disp (s : State) (sp : Byte) : (s.setSp sp).disp = s.disp := rfl
@[simp] theorem State.setSp_key (s : State) (sp : Byte) : (s.setSp sp).key = s.key := rfl
@[simp] theorem State.setSp_run (s : State) (sp : Byte) : (s.setSp sp).run = s.run := rfl
@[simp] theorem State.setSp_haltReason (s : State) (sp : Byte) : (s.setSp sp).haltReason = s.haltReason := rfl
@[simp] theorem State.setSp_haltWord (s : State) (sp : Byte) : (s.setSp sp).haltWord = s.haltWord := rfl
@[simp] theorem State.setSp_progLen (s : State) (sp : Byte) : (s.setSp sp).progLen = s.progLen := rfl
@[simp] theorem State.setSp_wait (s : State) (sp : Byte) : (s.setSp sp).wait = s.wait := rfl
@[simp] theorem State.setSp_waitReg (s : State) (sp : Byte) : (s.setSp sp).waitReg = s.waitReg := rfl
@[simp] theorem State.setSp_keySnap (s : State) (sp : Byte) : (s.setSp sp).keySnap = s.keySnap := rfl
@[simp] theorem State.setSp_draws (s : State) (sp : Byte) : (s.setSp sp).draws = s.draws := rfl

/-! `setStack` -/
@[simp] theorem State.setStack_cfg (s : State) (stack : List Word) : (s.setStack stack).cfg = s.cfg := rfl
@[simp] theorem State.setStack_mem (s : State) (stack : List Word) : (s.setStack stack).mem = s.mem := rfl
@[simp] theorem State.setStack_v (s : State) (stack : List Word) : (s.setStack stack).v = s.v := rfl
@[simp] theorem State.setStack_idx (s : State) (stack : List Word) : (s.setStack stack).idx = s.idx := rfl
@[simp] theorem State.setStack_pc (s : State) (stack : List Word) : (s.setStack stack).pc = s.pc := rfl
@[simp] theorem State.setStack_sp (s : State) (stack : List Word) : (s.setStack stack).sp = s.sp := rfl
@[simp] theorem State.setStack_stack (s : State) (stack : List Word) : (s.setStack stack).stack = stack := rfl
@[simp] theorem State.setStack_dt (s : State) (stack : List Word) : (s.setStack stack).dt = s.dt := rfl
@[simp] theorem State.setStack_st (s : State) (stack : List Word) : (s.setStack stack).st = s.st := rfl
@[simp] theorem State.setStack_disp (s : State) (stack : List Word) : (s.setStack stack).disp = s.disp := rfl
@[simp] theorem State.setStack_key (s : State) (stack : List Word) : (s.setStack stack).key = s.key := rfl
@[simp] theorem State.setStack_run (s : State) (stack : List Word) : (s.setStack stack).run = s.run := rfl
@[simp] theorem State.setStack_haltReason (s : State) (stack : List Word) : (s.setStack stack).haltReason = s.haltReason := rfl
@[simp] theorem State.setStack_haltWord (s : State) (stack : List Word) : (s.setStack stack).haltWord = s.haltWord := rfl
@[simp] theorem State.setStack_progLen (s : State) (stack : List Word) : (s.setStack stack).progLen = s.progLen := rfl
@[simp] theorem State.setStack_wait (s : State) (stack : List Word) : (s.setStack stack).wait = s.wait := rfl
@[simp] theorem State.setStack_waitReg (s : State) (stack : List Word) : (s.setStack stack).waitReg = s.waitReg := rfl
@[simp] theorem State.setStack_keySnap (s : State) (stack : List Word) : (s.setStack stack).keySnap = s.keySnap := rfl
@[simp] theorem State.setStack_draws (s : State) (stack : List Word) : (s.setStack stack).draws = s.draws := rfl

/-! `setDt` -/
@[simp] theorem State.setDt_cfg (s : State) (dt : Byte) : (s.setDt dt).cfg = s.cfg := rfl
@[simp] theorem State.setDt_mem (s : State) (dt : Byte) : (s.setDt dt).mem = s.mem := rfl
@[simp] theorem State.setDt_v (s : State) (dt : Byte) : (s.setDt dt).v = s.v := rfl
@[simp] theorem State.setDt_idx (s : State) (dt : Byte) : (s.setDt dt).idx = s.idx := rfl
@[simp] theorem State.setDt_pc (s : State) (dt : Byte) : (s.setDt dt).pc = s.pc := rfl
@[simp] theorem State.setDt_sp (s : State) (dt : Byte) : (s.setDt dt).sp = s.sp := rfl
@[simp] theorem State.setDt_stack (s : State) (dt : Byte) : (s.setDt dt).stack = s.stack := rfl
@[simp] theorem State.setDt_dt (s : State) (dt : Byte) : (s.setDt dt).dt = dt := rfl
@[simp] theorem State.setDt_st (s : State) (dt : Byte) : (s.setDt dt).st = s.st := rfl
@[simp] theorem State.setDt_disp (s : State) (dt : Byte) : (s.setDt dt).disp = s.disp := rfl
@[simp] theorem State.setDt_key (s : State) (dt : Byte) : (s.setDt dt).key = s.key := rfl
@[simp] theorem State.setDt_run (s : State) (dt : Byte) : (s.setDt dt).run = s.run := rfl
@[simp] theorem State.setDt_haltReason (s : State) (dt : Byte) : (s.setDt dt).haltReason = s.haltReason := rfl
@[simp] theorem State.setDt_haltWord (s : State) (dt : Byte) : (s.setDt dt).haltWord = s.haltWord := rfl
@[simp] theorem State.setDt_progLen (s : State) (dt : Byte) : (s.setDt dt).progLen = s.progLen := rfl
@[simp] theorem State.setDt_wait (s : State) (dt : Byte) : (s.setDt dt).wait = s.wait := rfl
@[simp] theorem State.setDt_waitReg (s : State) (dt : Byte) : (s.setDt dt).waitReg = s.waitReg := rfl
@[simp] theorem State.setDt_keySnap (s : State) (dt : Byte) : (s.setDt dt).keySnap = s.keySnap := rfl
@[simp] theorem State.setDt_draws (s : State) (dt : Byte) : (s.setDt dt).draws = s.draws := rfl

/-! `setSt` -/
@[simp] theorem State.setSt_cfg (s : State) (st : Byte) : (s.setSt st).cfg = s.cfg := rfl
@[simp] theorem State.setSt_mem (s : State) (st : Byte) : (s.setSt st).mem = s.mem := rfl
@[simp] theorem State.setSt_v (s : State) (st : Byte) : (s.setSt st).v = s.v := rfl
@[simp] theorem State.setSt_idx (s : State) (st : Byte) : (s.setSt st).idx = s.idx := rfl
@[simp] theorem State.setSt_pc (s : State) (st : Byte) : (s.setSt st).pc = s.pc := rfl
@[simp] theorem State.setSt_sp (s : State) (st : Byte) : (s.setSt st).sp = s.sp := rfl
@[simp] theorem State.setSt_stack (s : State) (st : Byte) : (s.setSt st).stack = s.stack := rfl
@[simp] theorem State.setSt_dt (s : State) (st : Byte) : (s.setSt st).dt = s.dt := rfl
@[simp] theorem State.setSt_st (s : State) (st : Byte) : (s.setSt st).st = st := rfl
@[simp] theorem State.setSt_disp (s : State) (st : Byte) : (s.setSt st).disp = s.disp := rfl
@[simp] theorem State.setSt_key (s : State) (st : Byte) : (s.setSt st).key = s.key := rfl
@[simp] theorem State.setSt_run (s : State) (st : Byte) : (s.setSt st).run = s.run := rfl
@[simp] theorem State.setSt_haltReason (s : State) (st : Byte) : (s.setSt st).haltReason = s.haltReason := rfl
@[simp] theorem State.setSt_haltWord (s : State) (st : Byte) : (s.setSt st).haltWord = s.haltWord := rfl
@[simp] theorem State.setSt_progLen (s : State) (st : Byte) : (s.setSt st).progLen = s.progLen := rfl
@[simp] theorem State.setSt_wait (s : State) (st : Byte) : (s.setSt st).wait = s.wait := rfl
@[simp] theorem State.setSt_waitReg (s : State) (st : Byte) : (s.setSt st).waitReg = s.waitReg := rfl
@[simp] theorem State.setSt_keySnap (s : State) (st : Byte) : (s.setSt st).keySnap = s.keySnap := rfl
@[simp] theorem State.setSt_draws (s : State) (st : Byte) : (s.setSt st).draws = s.draws := rfl

/-! `setDisp` -/
@[simp] theorem State.setDisp_cfg (s : State) (disp : Display) : (s.setDisp disp).cfg = s.cfg := rfl
@[simp] theorem State.setDisp_mem (s : State) (disp : Display) : (s.setDisp disp).mem = s.mem := rfl
@[simp] theorem State.setDisp_v (s : State) (disp : Display) : (s.setDisp disp).v = s.v := rfl
@[simp] theorem State.setDisp_idx (s : State) (disp : Display) : (s.setDisp disp).idx = s.idx := rfl
@[simp] theorem State.setDisp_pc (s : State) (disp : Display) : (s.setDisp disp).pc = s.pc := rfl
@[simp] theorem State.setDisp_sp (s : State) (disp : Display) : (s.setDisp disp).sp = s.sp := rfl
@[simp] theorem State.setDisp_stack (s : State) (disp : Display) : (s.setDisp disp).stack = s.stack := rfl
@[simp] theorem State.setDisp_dt (s : State) (disp : Display) : (s.setDisp disp).dt = s.dt := rfl
@[simp] theorem State.setDisp_st (s : State) (disp : Display) : (s.setDisp disp).st = s.st := rfl
@[simp] theorem State.setDisp_disp (s : State) (disp : Display) : (s.setDisp disp).disp = disp := rfl
@[simp] theorem State.setDisp_key (s : State) (disp : Display) : (s.setDisp disp).key = s.key := rfl
@[simp] theorem State.setDisp_run (s : State) (disp : Display) : (s.setDisp disp).run = s.run := rfl
@[simp] theorem State.setDisp_haltReason (s : State) (disp : Display) : (s.setDisp disp).haltReason = s.haltReason := rfl
@[simp] theorem State.setDisp_haltWord (s : State) (disp : Display) : (s.setDisp disp).haltWord = s.haltWord := rfl
@[simp] theorem State.setDisp_progLen (s : State) (disp : Display) : (s.setDisp disp).progLen = s.progLen := rfl
@[simp] theorem State.setDisp_wait (s : State) (disp : Display) : (s.setDisp disp).wait = s.wait := rfl
@[simp] theorem State.setDisp_waitReg (s : State) (disp : Display) : (s.setDisp disp).waitReg = s.waitReg := rfl
@[simp] theorem State.setDisp_keySnap (s : State) (disp : Display) : (s.setDisp disp).keySnap = s.keySnap := rfl
@[simp] theorem State.setDisp_draws (s : State) (disp : Display) : (s.setDisp disp).draws = s.draws := rfl

/-! `setKey` -/
@[simp] theorem State.setKey_cfg (s : State) (key : Keys) : (s.setKey key).cfg = s.cfg := rfl
@[simp] theorem State.setKey_mem (s : State) (key : Keys) : (s.setKey key).mem = s.mem := rfl
@[simp] theorem State.setKey_v (s : State) (key : Keys) : (s.setKey key).v = s.v := rfl
@[simp] theorem State.setKey_idx (s : State) (key : Keys) : (s.setKey key).idx = s.idx := rfl
@[simp] theorem State.setKey_pc (s : State) (key : Keys) : (s.setKey key).pc = s.pc := rfl
@[simp] theorem State.setKey_sp (s : State) (key : Keys) : (s.setKey key).sp = s.sp := rfl
@[simp] theorem State.setKey_stack (s : State) (key : Keys) : (s.setKey key).stack = s.stack := rfl
@[simp] theorem State.setKey_dt (s : State) (key : Keys) : (s.setKey key).dt = s.dt := rfl
@[simp] theorem State.setKey_st (s : State) (key : Keys) : (s.setKey key).st = s.st := rfl
@[simp] theorem State.setKey_disp (s : State) (key : Keys) : (s.setKey key).disp = s.disp := rfl
@[simp] theorem State.setKey_key (s : State) (key : Keys) : (s.setKey key).key = key := rfl
@[simp] theorem State.setKey_run (s : State) (key : Keys) : (s.setKey key).run = s.run := rfl
@[simp] theorem State.setKey_haltReason (s : State) (key : Keys) : (s.setKey key).haltReason = s.haltReason := rfl
@[simp] theorem State.setKey_haltWord (s : State) (key : Keys) : (s.setKey key).haltWord = s.haltWord := rfl
@[simp] theorem State.setKey_progLen (s : State) (key : Keys) : (s.setKey key).progLen = s.progLen := rfl
@[simp] theorem State.setKey_wait (s : State) (key : Keys) : (s.setKey key).wait = s.wait := rfl
@[simp] theorem State.setKey_waitReg (s : State) (key : Keys) : (s.setKey key).waitReg = s.waitReg := rfl
@[simp] theorem State.setKey_keySnap (s : State) (key : Keys) : (s.setKey key).keySnap = s.keySnap := rfl
@[simp] theorem State.setKey_draws (s : State) (key : Keys) : (s.setKey key).draws = s.draws := rfl

/-! `setRun` -/
@[simp] theorem State.setRun_cfg (s : State) (run : RunState) : (s.setRun run).cfg = s.cfg := rfl
@[simp] theorem State.setRun_mem (s : State) (run : RunState) : (s.setRun run).mem = s.mem := rfl
@[simp] theorem State.setRun_v (s : State) (run : RunState) : (s.setRun run).v = s.v := rfl
@[simp] theorem State.setRun_idx (s : State) (run : RunState) : (s.setRun run).idx = s.idx := rfl
@[simp] theorem State.setRun_pc (s : State) (run : RunState) : (s.setRun run).pc = s.pc := rfl
@[simp] theorem State.setRun_sp (s : State) (run : RunState) : (s.setRun run).sp = s.sp := rfl
@[simp] theorem State.setRun_stack (s : State) (run : RunState) : (s.setRun run).stack = s.stack := rfl
@[simp] theorem State.setRun_dt (s : State) (run : RunState) : (s.setRun run).dt = s.dt := rfl
@[simp] theorem State.setRun_st (s : State) (run : RunState) : (s.setRun run).st = s.st := rfl
@[simp] theorem State.setRun_disp (s : State) (run : RunState) : (s.setRun run).disp = s.disp := rfl
@[simp] theorem State.setRun_key (s : State) (run : RunState) : (s.setRun run).key = s.key := rfl
@[simp] theorem State.setRun_run (s : State) (run : RunState) : (s.setRun run).run = run := rfl
@[simp] theorem State.setRun_haltReason (s : State) (run : RunState) : (s.setRun run).haltReason = s.haltReason := rfl
@[simp] theorem State.setRun_haltWord (s : State) (run : RunState) : (s.setRun run).haltWord = s.haltWord := rfl
@[simp] theorem State.setRun_progLen (s : State) (run : RunState) : (s.setRun run).progLen = s.progLen := rfl
@[simp] theorem State.setRun_wait (s : State) (run : RunState) : (s.setRun run).wait = s.wait := rfl
@[simp] theorem State.setRun_waitReg (s : State) (run : RunState) : (s.setRun run).waitReg = s.waitReg := rfl
@[simp] theorem State.setRun_keySnap (s : State) (run : RunState) : (s.setRun run).keySnap = s.keySnap := rfl
@[simp] theorem State.setRun_draws (s : State) (run : RunState) : (s.setRun run).draws = s.draws := rfl

/-! `setHaltReason` -/
@[simp] theorem State.setHaltReason_cfg (s : State) (haltReason : BitVec 3) : (s.setHaltReason haltReason).cfg = s.cfg := rfl
@[simp] theorem State.setHaltReason_mem (s : State) (haltReason : BitVec 3) : (s.setHaltReason haltReason).mem = s.mem := rfl
@[simp] theorem State.setHaltReason_v (s : State) (haltReason : BitVec 3) : (s.setHaltReason haltReason).v = s.v := rfl
@[simp] theorem State.setHaltReason_idx (s : State) (haltReason : BitVec 3) : (s.setHaltReason haltReason).idx = s.idx := rfl
@[simp] theorem State.setHaltReason_pc (s : State) (haltReason : BitVec 3) : (s.setHaltReason haltReason).pc = s.pc := rfl
@[simp] theorem State.setHaltReason_sp (s : State) (haltReason : BitVec 3) : (s.setHaltReason haltReason).sp = s.sp := rfl
@[simp] theorem State.setHaltReason_stack (s : State) (haltReason : BitVec 3) : (s.setHaltReason haltReason).stack = s.stack := rfl
@[simp] theorem State.setHaltReason_dt (s : State) (haltReason : BitVec 3) : (s.setHaltReason haltReason).dt = s.dt := rfl
@[simp] theorem State.setHaltReason_st (s : State) (haltReason : BitVec 3) : (s.setHaltReason haltReason).st = s.st := rfl
@[simp] theorem State.setHaltReason_disp (s : State) (haltReason : BitVec 3) : (s.setHaltReason haltReason).disp = s.disp := rfl
@[simp] theorem State.setHaltReason_key (s : State) (haltReason : BitVec 3) : (s.setHaltReason haltReason).key = s.key := rfl
@[simp] theorem State.setHaltReason_run (s : State) (haltReason : BitVec 3) : (s.setHaltReason haltReason).run = s.run := rfl
@[simp] theorem State.setHaltReason_haltReason (s : State) (haltReason : BitVec 3) : (s.setHaltReason haltReason).haltReason = haltReason := rfl
@[simp] theorem State.setHaltReason_haltWord (s : State) (haltReason : BitVec 3) : (s.setHaltReason haltReason).haltWord = s.haltWord := rfl
@[simp] theorem State.setHaltReason_progLen (s : State) (haltReason : BitVec 3) : (s.setHaltReason haltReason).progLen = s.progLen := rfl
@[simp] theorem State.setHaltReason_wait (s : State) (haltReason : BitVec 3) : (s.setHaltReason haltReason).wait = s.wait := rfl
@[simp] theorem State.setHaltReason_waitReg (s : State) (haltReason : BitVec 3) : (s.setHaltReason haltReason).waitReg = s.waitReg := rfl
@[simp] theorem State.setHaltReason_keySnap (s : State) (haltReason : BitVec 3) : (s.setHaltReason haltReason).keySnap = s.keySnap := rfl
@[simp] theorem State.setHaltReason_draws (s : State) (haltReason : BitVec 3) : (s.setHaltReason haltReason).draws = s.draws := rfl

/-! `setHaltWord` -/
@[simp] theorem State.setHaltWord_cfg (s : State) (haltWord : Word) : (s.setHaltWord haltWord).cfg = s.cfg := rfl
@[simp] theorem State.setHaltWord_mem (s : State) (haltWord : Word) : (s.setHaltWord haltWord).mem = s.mem := rfl
@[simp] theorem State.setHaltWord_v (s : State) (haltWord : Word) : (s.setHaltWord haltWord).v = s.v := rfl
@[simp] theorem State.setHaltWord_idx (s : State) (haltWord : Word) : (s.setHaltWord haltWord).idx = s.idx := rfl
@[simp] theorem State.setHaltWord_pc (s : State) (haltWord : Word) : (s.setHaltWord haltWord).pc = s.pc := rfl
@[simp] theorem State.setHaltWord_sp (s : State) (haltWord : Word) : (s.setHaltWord haltWord).sp = s.sp := rfl
@[simp] theorem State.setHaltWord_stack (s : State) (haltWord : Word) : (s.setHaltWord haltWord).stack = s.stack := rfl
@[simp] theorem State.setHaltWord_dt (s : State) (haltWord : Word) : (s.setHaltWord haltWord).dt = s.dt := rfl
@[simp] theorem State.setHaltWord_st (s : State) (haltWord : Word) : (s.setHaltWord haltWord).st = s.st := rfl
@[simp] theorem State.setHaltWord_disp (s : State) (haltWord : Word) : (s.setHaltWord haltWord).disp = s.disp := rfl
@[simp] theorem State.setHaltWord_key (s : State) (haltWord : Word) : (s.setHaltWord haltWord).key = s.key := rfl
@[simp] theorem State.setHaltWord_run (s : State) (haltWord : Word) : (s.setHaltWord haltWord).run = s.run := rfl
@[simp] theorem State.setHaltWord_haltReason (s : State) (haltWord : Word) : (s.setHaltWord haltWord).haltReason = s.haltReason := rfl
@[simp] theorem State.setHaltWord_haltWord (s : State) (haltWord : Word) : (s.setHaltWord haltWord).haltWord = haltWord := rfl
@[simp] theorem State.setHaltWord_progLen (s : State) (haltWord : Word) : (s.setHaltWord haltWord).progLen = s.progLen := rfl
@[simp] theorem State.setHaltWord_wait (s : State) (haltWord : Word) : (s.setHaltWord haltWord).wait = s.wait := rfl
@[simp] theorem State.setHaltWord_waitReg (s : State) (haltWord : Word) : (s.setHaltWord haltWord).waitReg = s.waitReg := rfl
@[simp] theorem State.setHaltWord_keySnap (s : State) (haltWord : Word) : (s.setHaltWord haltWord).keySnap = s.keySnap := rfl
@[simp] theorem State.setHaltWord_draws (s : State) (haltWord : Word) : (s.setHaltWord haltWord).draws = s.draws := rfl

/-! `setProgLen` -/
@[simp] theorem State.setProgLen_cfg (s : State) (progLen : Word) : (s.setProgLen progLen).cfg = s.cfg := rfl
@[simp] theorem State.setProgLen_mem (s : State) (progLen : Word) : (s.setProgLen progLen).mem = s.mem := rfl
@[simp] theorem State.setProgLen_v (s : State) (progLen : Word) : (s.setProgLen progLen).v = s.v := rfl
@[simp] theorem State.setProgLen_idx (s : State) (progLen : Word) : (s.setProgLen progLen).idx = s.idx := rfl
@[simp] theorem State.setProgLen_pc (s : State) (progLen : Word) : (s.setProgLen progLen).pc = s.pc := rfl
@[simp] theorem State.setProgLen_sp (s : State) (progLen : Word) : (s.setProgLen progLen).sp = s.sp := rfl
@[simp] theorem State.setProgLen_stack (s : State) (progLen : Word) : (s.setProgLen progLen).stack = s.stack := rfl
@[simp] theorem State.setProgLen_dt (s : State) (progLen : Word) : (s.setProgLen progLen).dt = s.dt := rfl
@[simp] theorem State.setProgLen_st (s : State) (progLen : Word) : (s.setProgLen progLen).st = s.st := rfl
@[simp] theorem State.setProgLen_disp (s : State) (progLen : Word) : (s.setProgLen progLen).disp = s.disp := rfl
@[simp] theorem State.setProgLen_key (s : State) (progLen : Word) : (s.setProgLen progLen).key = s.key := rfl
@[simp] theorem State.setProgLen_run (s : State) (progLen : Word) : (s.setProgLen progLen).run = s.run := rfl
@[simp] theorem State.setProgLen_haltReason (s : State) (progLen : Word) : (s.setProgLen progLen).haltReason = s.haltReason := rfl
@[simp] theorem State.setProgLen_haltWord (s : State) (progLen : Word) : (s.setProgLen progLen).haltWord = s.haltWord := rfl
@[simp] theorem State.setProgLen_progLen (s : State) (progLen : Word) : (s.setProgLen progLen).progLen = progLen := rfl
@[simp] theorem State.setProgLen_wait (s : State) (progLen : Word) : (s.setProgLen progLen).wait = s.wait := rfl
@[simp] theorem State.setProgLen_waitReg (s : State) (progLen : Word) : (s.setProgLen progLen).waitReg = s.waitReg := rfl
@[simp] theorem State.setProgLen_keySnap (s : State) (progLen : Word) : (s.setProgLen progLen).keySnap = s.keySnap := rfl
@[simp] theorem State.setProgLen_draws (s : State) (progLen : Word) : (s.setProgLen progLen).draws = s.draws := rfl

/-! `setWait` -/
@[simp] theorem State.setWait_cfg (s : State) (wait : Bool) : (s.setWait wait).cfg = s.cfg := rfl
@[simp] theorem State.setWait_mem (s : State) (wait : Bool) : (s.setWait wait).mem = s.mem := rfl
@[simp] theorem State.setWait_v (s : State) (wait : Bool) : (s.setWait wait).v = s.v := rfl
@[simp] theorem State.setWait_idx (s : State) (wait : Bool) : (s.setWait wait).idx = s.idx := rfl
@[simp] theorem State.setWait_pc (s : State) (wait : Bool) : (s.setWait wait).pc = s.pc := rfl
@[simp] theorem State.setWait_sp (s : State) (wait : Bool) : (s.setWait wait).sp = s.sp := rfl
@[simp] theorem State.setWait_stack (s : State) (wait : Bool) : (s.setWait wait).stack = s.stack := rfl
@[simp] theorem State.setWait_dt (s : State) (wait : Bool) : (s.setWait wait).dt = s.dt := rfl
@[simp] theorem State.setWait_st (s : State) (wait : Bool) : (s.setWait wait).st = s.st := rfl
@[simp] theorem State.setWait_disp (s : State) (wait : Bool) : (s.setWait wait).disp = s.disp := rfl
@[simp] theorem State.setWait_key (s : State) (wait : Bool) : (s.setWait wait).key = s.key := rfl
@[simp] theorem State.setWait_run (s : State) (wait : Bool) : (s.setWait wait).run = s.run := rfl
@[simp] theorem State.setWait_haltReason (s : State) (wait : Bool) : (s.setWait wait).haltReason = s.haltReason := rfl
@[simp] theorem State.setWait_haltWord (s : State) (wait : Bool) : (s.setWait wait).haltWord = s.haltWord := rfl
@[simp] theorem State.setWait_progLen (s : State) (wait : Bool) : (s.setWait wait).progLen = s.progLen := rfl
@[simp] theorem State.setWait_wait (s : State) (wait : Bool) : (s.setWait wait).wait = wait := rfl
@[simp] theorem State.setWait_waitReg (s : State) (wait : Bool) : (s.setWait wait).waitReg = s.waitReg := rfl
@[simp] theorem State.setWait_keySnap (s : State) (wait : Bool) : (s.setWait wait).keySnap = s.keySnap := rfl
@[simp] theorem State.setWait_draws (s : State) (wait : Bool) : (s.setWait wait).draws = s.draws := rfl

/-! `setWaitReg` -/
@[simp] theorem State.setWaitReg_cfg (s : State) (waitReg : Reg) : (s.setWaitReg waitReg).cfg = s.cfg := rfl
@[simp] theorem State.setWaitReg_mem (s : State) (waitReg : Reg) : (s.setWaitReg waitReg).mem = s.mem := rfl
@[simp] theorem State.setWaitReg_v (s : State) (waitReg : Reg) : (s.setWaitReg waitReg).v = s.v := rfl
@[simp] theorem State.setWaitReg_idx (s : State) (waitReg : Reg) : (s.setWaitReg waitReg).idx = s.idx := rfl
@[simp] theorem State.setWaitReg_pc (s : State) (waitReg : Reg) : (s.setWaitReg waitReg).pc = s.pc := rfl
@[simp] theorem State.setWaitReg_sp (s : State) (waitReg : Reg) : (s.setWaitReg waitReg).sp = s.sp := rfl
@[simp] theorem State.setWaitReg_stack (s : State) (waitReg : Reg) : (s.setWaitReg waitReg).stack = s.stack := rfl
@[simp] theorem State.setWaitReg_dt (s : State) (waitReg : Reg) : (s.setWaitReg waitReg).dt = s.dt := rfl
@[simp] theorem State.setWaitReg_st (s : State) (waitReg : Reg) : (s.setWaitReg waitReg).st = s.st := rfl
@[simp] theorem State.setWaitReg_disp (s : State) (waitReg : Reg) : (s.setWaitReg waitReg).disp = s.disp := rfl
@[simp] theorem State.setWaitReg_key (s : State) (waitReg : Reg) : (s.setWaitReg waitReg).key = s.key := rfl
@[simp] theorem State.setWaitReg_run (s : State) (waitReg : Reg) : (s.setWaitReg waitReg).run = s.run := rfl
@[simp] theorem State.setWaitReg_haltReason (s : State) (waitReg : Reg) : (s.setWaitReg waitReg).haltReason = s.haltReason := rfl
@[simp] theorem State.setWaitReg_haltWord (s : State) (waitReg : Reg) : (s.setWaitReg waitReg).haltWord = s.haltWord := rfl
@[simp] theorem State.setWaitReg_progLen (s : State) (waitReg : Reg) : (s.setWaitReg waitReg).progLen = s.progLen := rfl
@[simp] theorem State.setWaitReg_wait (s : State) (waitReg : Reg) : (s.setWaitReg waitReg).wait = s.wait := rfl
@[simp] theorem State.setWaitReg_waitReg (s : State) (waitReg : Reg) : (s.setWaitReg waitReg).waitReg = waitReg := rfl
@[simp] theorem State.setWaitReg_keySnap (s : State) (waitReg : Reg) : (s.setWaitReg waitReg).keySnap = s.keySnap := rfl
@[simp] theorem State.setWaitReg_draws (s : State) (waitReg : Reg) : (s.setWaitReg waitReg).draws = s.draws := rfl

/-! `setKeySnap` -/
@[simp] theorem State.setKeySnap_cfg (s : State) (keySnap : Keys) : (s.setKeySnap keySnap).cfg = s.cfg := rfl
@[simp] theorem State.setKeySnap_mem (s : State) (keySnap : Keys) : (s.setKeySnap keySnap).mem = s.mem := rfl
@[simp] theorem State.setKeySnap_v (s : State) (keySnap : Keys) : (s.setKeySnap keySnap).v = s.v := rfl
@[simp] theorem State.setKeySnap_idx (s : State) (keySnap : Keys) : (s.setKeySnap keySnap).idx = s.idx := rfl
@[simp] theorem State.setKeySnap_pc (s : State) (keySnap : Keys) : (s.setKeySnap keySnap).pc = s.pc := rfl
@[simp] theorem State.setKeySnap_sp (s : State) (keySnap : Keys) : (s.setKeySnap keySnap).sp = s.sp := rfl
@[simp] theorem State.setKeySnap_stack (s : State) (keySnap : Keys) : (s.setKeySnap keySnap).stack = s.stack := rfl
@[simp] theorem State.setKeySnap_dt (s : State) (keySnap : Keys) : (s.setKeySnap keySnap).dt = s.dt := rfl
@[simp] theorem State.setKeySnap_st (s : State) (keySnap : Keys) : (s.setKeySnap keySnap).st = s.st := rfl
@[simp] theorem State.setKeySnap_disp (s : State) (keySnap : Keys) : (s.setKeySnap keySnap).disp = s.disp := rfl
@[simp] theorem State.setKeySnap_key (s : State) (keySnap : Keys) : (s.setKeySnap keySnap).key = s.key := rfl
@[simp] theorem State.setKeySnap_run (s : State) (keySnap : Keys) : (s.setKeySnap keySnap).run = s.run := rfl
@[simp] theorem State.setKeySnap_haltReason (s : State) (keySnap : Keys) : (s.setKeySnap keySnap).haltReason = s.haltReason := rfl
@[simp] theorem State.setKeySnap_haltWord (s : State) (keySnap : Keys) : (s.setKeySnap keySnap).haltWord = s.haltWord := rfl
@[simp] theorem State.setKeySnap_progLen (s : State) (keySnap : Keys) : (s.setKeySnap keySnap).progLen = s.progLen := rfl
@[simp] theorem State.setKeySnap_wait (s : State) (keySnap : Keys) : (s.setKeySnap keySnap).wait = s.wait := rfl
@[simp] theorem State.setKeySnap_waitReg (s : State) (keySnap : Keys) : (s.setKeySnap keySnap).waitReg = s.waitReg := rfl
@[simp] theorem State.setKeySnap_keySnap (s : State) (keySnap : Keys) : (s.setKeySnap keySnap).keySnap = keySnap := rfl
@[simp] theorem State.setKeySnap_draws (s : State) (keySnap : Keys) : (s.setKeySnap keySnap).draws = s.draws := rfl

/-! `setDraws` -/
@[simp] theorem State.setDraws_cfg (s : State) (draws : Nat) : (s.setDraws draws).cfg = s.cfg := rfl
@[simp] theorem State.setDraws_mem (s : State) (draws : Nat) : (s.setDraws draws).mem = s.mem := rfl
@[simp] theorem State.setDraws_v (s : State) (draws : Nat) : (s.setDraws draws).v = s.v := rfl
@[simp] theorem State.setDraws_idx (s : State) (draws : Nat) : (s.setDraws draws).idx = s.idx := rfl
@[simp] theorem State.setDraws_pc (s : State) (draws : Nat) : (s.setDraws draws).pc = s.pc := rfl
@[simp] theorem State.setDraws_sp (s : State) (draws : Nat) : (s.setDraws draws).sp = s.sp := rfl
@[simp] theorem State.setDraws_stack (s : State) (draws : Nat) : (s.setDraws draws).stack = s.stack := rfl
@[simp] theorem State.setDraws_dt (s : State) (draws : Nat) : (s.setDraws draws).dt = s.dt := rfl
@[simp] theorem State.setDraws_st (s : State) (draws : Nat) : (s.setDraws draws).st = s.st := rfl
@[simp] theorem State.setDraws_disp (s : State) (draws : Nat) : (s.setDraws draws).disp = s.disp := rfl
@[simp] theorem State.setDraws_key (s : State) (draws : Nat) : (s.setDraws draws).key = s.key := rfl
@[simp] theorem State.setDraws_run (s : State) (draws : Nat) : (s.setDraws draws).run = s.run := rfl
@[simp] theorem State.setDraws_haltReason (s : State) (draws : Nat) : (s.setDraws draws).haltReason = s.haltReason := rfl
@[simp] theorem State.setDraws_haltWord (s : State) (draws : Nat) : (s.setDraws draws).haltWord = s.haltWord := rfl
@[simp] theorem State.setDraws_progLen (s : State) (draws : Nat) : (s.setDraws draws).progLen = s.progLen := rfl
@[simp] theorem State.setDraws_wait (s : State) (draws : Nat) : (s.setDraws draws).wait = s.wait := rfl
@[simp] theorem State.setDraws_waitReg (s : State) (draws : Nat) : (s.setDraws draws).waitReg = s.waitReg := rfl
@[simp] theorem State.setDraws_keySnap (s : State) (draws : Nat) : (s.setDraws draws).keySnap = s.keySnap := rfl
@[simp] theorem State.setDraws_draws (s : State) (draws : Nat) : (s.setDraws draws).draws = draws := rfl

/-! Construction (70_reset_and_hazards.md R350) -/
@[simp] theorem State.initial_cfg (p : Params) : (State.initial p).cfg = p := rfl
@[simp] theorem State.initial_mem (p : Params) : (State.initial p).mem = [] := rfl
@[simp] theorem State.initial_v (p : Params) : (State.initial p).v = Vector.replicate 16 0 := rfl
@[simp] theorem State.initial_idx (p : Params) : (State.initial p).idx = 0 := rfl
@[simp] theorem State.initial_pc (p : Params) : (State.initial p).pc = 0 := rfl
@[simp] theorem State.initial_sp (p : Params) : (State.initial p).sp = 0 := rfl
@[simp] theorem State.initial_stack (p : Params) : (State.initial p).stack = List.replicate p.depth 0 := rfl
@[simp] theorem State.initial_dt (p : Params) : (State.initial p).dt = 0 := rfl
@[simp] theorem State.initial_st (p : Params) : (State.initial p).st = 0 := rfl
@[simp] theorem State.initial_disp (p : Params) : (State.initial p).disp = Display.blank := rfl
@[simp] theorem State.initial_key (p : Params) : (State.initial p).key = Keys.none := rfl
@[simp] theorem State.initial_run (p : Params) : (State.initial p).run = .paused := rfl
@[simp] theorem State.initial_haltReason (p : Params) : (State.initial p).haltReason = 0 := rfl
@[simp] theorem State.initial_haltWord (p : Params) : (State.initial p).haltWord = 0 := rfl
@[simp] theorem State.initial_progLen (p : Params) : (State.initial p).progLen = 0 := rfl
@[simp] theorem State.initial_wait (p : Params) : (State.initial p).wait = false := rfl
@[simp] theorem State.initial_waitReg (p : Params) : (State.initial p).waitReg = 0 := rfl
@[simp] theorem State.initial_keySnap (p : Params) : (State.initial p).keySnap = Keys.none := rfl
@[simp] theorem State.initial_draws (p : Params) : (State.initial p).draws = 0 := rfl

/-- Two states that agree on every field are equal. -/
theorem State.ext_fields {s t : State}
    (h_cfg : s.cfg = t.cfg)
    (h_mem : s.mem = t.mem)
    (h_v : s.v = t.v)
    (h_idx : s.idx = t.idx)
    (h_pc : s.pc = t.pc)
    (h_sp : s.sp = t.sp)
    (h_stack : s.stack = t.stack)
    (h_dt : s.dt = t.dt)
    (h_st : s.st = t.st)
    (h_disp : s.disp = t.disp)
    (h_key : s.key = t.key)
    (h_run : s.run = t.run)
    (h_haltReason : s.haltReason = t.haltReason)
    (h_haltWord : s.haltWord = t.haltWord)
    (h_progLen : s.progLen = t.progLen)
    (h_wait : s.wait = t.wait)
    (h_waitReg : s.waitReg = t.waitReg)
    (h_keySnap : s.keySnap = t.keySnap)
    (h_draws : s.draws = t.draws) : s = t := by
  cases s; cases t; simp_all

end Sys2Proof.Machine
end

