-- ==== Sys2Proof/Laws/Memory.lean ====
section
/-! SUPPORT. Laws of the memory list: read after write, and every operation keeps the canonical form. -/

namespace Sys2Proof.Machine

/-- Every listed address lies above `a`. -/
abbrev Memory.Above (a : Nat) (m : Memory) : Prop := ∀ c ∈ m, a < c.1

@[simp] theorem Memory.read_nil (a : Nat) : Memory.read [] a = Memory.initial a := rfl

theorem Memory.read_listed (b : Nat) (x : Byte) (m : Memory) (a : Nat) :
    Memory.read ((b, x) :: m) a = if a = b then x else Memory.read m a := rfl

theorem Memory.wf_listed (a : Nat) (x : Byte) (m : Memory) :
    Memory.wf ((a, x) :: m) = true ↔
      a < Config.memSize ∧ x ≠ Memory.initial a ∧ Memory.Above a m ∧ Memory.wf m = true := by
  simp [Memory.wf, Memory.Above, and_assoc]

/-- An address below every listed one reads as construction left it. -/
theorem Memory.read_of_above {a : Nat} {m : Memory} (h : Memory.Above a m) :
    Memory.read m a = Memory.initial a := by
  induction m with
  | nil => rfl
  | cons c m ih =>
    have hc : a < c.1 := h c (by simp)
    rw [show c = (c.1, c.2) from rfl, Memory.read_listed, if_neg (by omega)]
    exact ih fun d hd => h d (by simp [hd])

theorem Memory.read_cons {a : Nat} (x : Byte) {m : Memory} (h : Memory.Above a m) (b : Nat) :
    Memory.read (Memory.cons a x m) b = if b = a then x else Memory.read m b := by
  unfold Memory.cons
  split
  · next hx =>
    split
    · next hb => rw [hb, Memory.read_of_above h, hx]
    · rfl
  · rfl

/-- A read after a write: the byte written at its address, the old byte anywhere else. -/
theorem Memory.read_write {m : Memory} (h : m.wf = true) (a : Nat) (x : Byte) (b : Nat) :
    Memory.read (m.write a x) b = if b = a then x else Memory.read m b := by
  induction m with
  | nil => exact Memory.read_cons x (by simp [Memory.Above]) b
  | cons c m ih =>
    obtain ⟨k, y⟩ := c
    obtain ⟨-, -, hab, hw⟩ := (Memory.wf_listed k y m).1 h
    simp only [Memory.write]
    split
    · next hlt =>
      exact Memory.read_cons x (fun d hd => by
        rcases List.mem_cons.1 hd with rfl | hd
        · exact hlt
        · exact Nat.lt_trans hlt (hab d hd)) b
    · split
      · next heq =>
        subst heq
        rw [Memory.read_cons x hab, Memory.read_listed]
        split <;> rfl
      · next hne =>
        rw [Memory.read_listed, Memory.read_listed, ih hw]
        split <;> split <;> first | rfl | omega

theorem Memory.above_cons {a k : Nat} {x : Byte} {m : Memory} (ha : a < k) (h : Memory.Above a m) :
    Memory.Above a (Memory.cons k x m) := by
  unfold Memory.cons
  split
  · exact h
  · intro c hc
    rcases List.mem_cons.1 hc with rfl | hc
    · exact ha
    · exact h c hc

theorem Memory.above_write {a k : Nat} {x : Byte} {m : Memory} (ha : a < k) (h : Memory.Above a m) :
    Memory.Above a (m.write k x) := by
  induction m with
  | nil => exact Memory.above_cons ha h
  | cons c m ih =>
    obtain ⟨b, y⟩ := c
    have hm : Memory.Above a m := fun d hd => h d (by simp [hd])
    simp only [Memory.write]
    split
    · exact Memory.above_cons ha h
    · split
      · exact Memory.above_cons ha hm
      · intro c hc
        rcases List.mem_cons.1 hc with rfl | hc
        · exact h _ (by simp)
        · exact ih hm c hc

theorem Memory.wf_cons {a : Nat} {x : Byte} {m : Memory} (ha : a < Config.memSize) (h : Memory.Above a m)
    (hw : m.wf = true) : (Memory.cons a x m).wf = true := by
  unfold Memory.cons
  split
  · exact hw
  · next hx => exact (Memory.wf_listed a x m).2 ⟨ha, hx, h, hw⟩

/-- A write inside the space keeps the canonical form. -/
theorem Memory.wf_write {m : Memory} (h : m.wf = true) {a : Nat} (ha : a < Config.memSize) (x : Byte) :
    (m.write a x).wf = true := by
  induction m with
  | nil => exact Memory.wf_cons ha (by simp [Memory.Above]) h
  | cons c m ih =>
    obtain ⟨k, y⟩ := c
    obtain ⟨hk, hy, hab, hw⟩ := (Memory.wf_listed k y m).1 h
    simp only [Memory.write]
    split
    · next hlt =>
      exact Memory.wf_cons ha (fun d hd => by
        rcases List.mem_cons.1 hd with rfl | hd
        · exact hlt
        · exact Nat.lt_trans hlt (hab d hd)) h
    · split
      · next heq =>
        subst heq
        exact Memory.wf_cons ha hab hw
      · next hge hne =>
        exact (Memory.wf_listed _ _ _).2 ⟨hk, hy, Memory.above_write (by omega) hab, ih hw⟩

theorem Addr.toNat_lt_memSize (a : Addr) : a.toNat < Config.memSize := a.isLt

/-! ### The state's byte accessors -/

@[simp] theorem State.writeMem_mem (s : State) (a : Addr) (x : Byte) :
    (s.writeMem a x).mem = s.mem.write a.toNat x := rfl

theorem State.writeMem_wf {s : State} (h : s.mem.wf = true) (a : Addr) (x : Byte) :
    (s.writeMem a x).mem.wf = true := Memory.wf_write h (Addr.toNat_lt_memSize a) x

theorem State.readMem_writeMem {s : State} (h : s.mem.wf = true) (a b : Addr) (x : Byte) :
    (s.writeMem a x).readMem b = if b = a then x else s.readMem b := by
  simp only [State.readMem, State.writeMem_mem, Memory.read_write h, BitVec.toNat_inj]

theorem State.readMem_congr {s t : State} (h : s.mem = t.mem) (a : Addr) : s.readMem a = t.readMem a := by
  simp [State.readMem, h]

/-- A write of one byte leaves everything but memory alone. -/
theorem State.writeMem_eq (s : State) (a : Addr) (x : Byte) : s.writeMem a x = s.setMem (s.mem.write a.toNat x) := rfl

/-! ### Runs of bytes (20_memory.md R85) -/

/-- Storing bytes changes memory alone. -/
theorem State.storeBytes_eq (s : State) (base : Word) (k : Nat) (bs : List Byte) :
    s.storeBytes base k bs = s.setMem (s.storeBytes base k bs).mem := by
  induction bs generalizing s k with
  | nil => rfl
  | cons b bs ih => rw [State.storeBytes, ih]; rfl

theorem State.storeBytes_wf {s : State} (h : s.mem.wf = true) (base : Word) (k : Nat) (bs : List Byte) :
    (s.storeBytes base k bs).mem.wf = true := by
  induction bs generalizing s k with
  | nil => exact h
  | cons b bs ih => exact ih (State.writeMem_wf h _ _) _

/-- A byte at none of the stored addresses reads as before. -/
theorem State.readMem_storeBytes_other {s : State} (h : s.mem.wf = true) (base : Word) (k : Nat) (bs : List Byte)
    (a : Addr) (ha : ∀ j < bs.length, a ≠ dataAddr base (k + j)) :
    (s.storeBytes base k bs).readMem a = s.readMem a := by
  induction bs generalizing s k with
  | nil => rfl
  | cons b bs ih =>
    rw [State.storeBytes, ih (State.writeMem_wf h _ _) _ fun j hj => by
      have := ha (j + 1) (by simpa using hj)
      rwa [show k + (j + 1) = k + 1 + j by omega] at this, State.readMem_writeMem h, if_neg]
    exact ha 0 (by simp)

theorem dataAddr_inj {base : Word} {j k : Nat} (hj : j < 0x1000) (hk : k < 0x1000)
    (h : dataAddr base j = dataAddr base k) : j = k := by
  simp only [dataAddr, maskAddress, ← BitVec.toNat_inj, BitVec.toNat_ofNat] at h
  omega

/-- The byte stored `j` places on reads back, while the run is not longer than the space. -/
theorem State.readMem_storeBytes {s : State} (h : s.mem.wf = true) (base : Word) (k : Nat) (bs : List Byte)
    (hlen : k + bs.length ≤ 0x1000) (j : Nat) (hj : j < bs.length) :
    (s.storeBytes base k bs).readMem (dataAddr base (k + j)) = bs[j] := by
  induction bs generalizing s k j with
  | nil => simp at hj
  | cons b bs ih =>
    simp only [List.length_cons] at hlen hj
    rw [State.storeBytes]
    cases j with
    | zero =>
      rw [State.readMem_storeBytes_other (State.writeMem_wf h _ _) _ _ _ _ fun j' hj' he => by
        have := dataAddr_inj (by omega) (by omega) he
        omega, State.readMem_writeMem h]
      simp
    | succ j =>
      have := ih (State.writeMem_wf h (dataAddr base k) b) (k + 1) (by omega) j (by omega)
      simpa [show k + (j + 1) = k + 1 + j by omega] using this

/-- Storing registers changes memory alone. -/
theorem State.storeRegs_eq (s : State) (n : Nat) : s.storeRegs n = s.setMem (s.storeRegs n).mem := by
  induction n with
  | zero => rfl
  | succ n ih => rw [State.storeRegs, ih]; rfl

theorem State.storeRegs_wf {s : State} (h : s.mem.wf = true) (n : Nat) : (s.storeRegs n).mem.wf = true := by
  induction n with
  | zero => exact h
  | succ n ih => exact State.writeMem_wf ih _ _

/-- What a byte reads as after V0 .. V(n-1) are stored at I. -/
theorem State.readMem_storeRegs_other {s : State} (h : s.mem.wf = true) (n : Nat) (a : Addr)
    (ha : ∀ k < n, a ≠ dataAddr s.idx k) : (s.storeRegs n).readMem a = s.readMem a := by
  induction n with
  | zero => rfl
  | succ n ih =>
    rw [State.storeRegs, State.readMem_writeMem (State.storeRegs_wf h n), if_neg (ha n (by omega))]
    exact ih fun k hk => ha k (by omega)

theorem State.readMem_storeRegs {s : State} (h : s.mem.wf = true) (n : Nat) (hn : n ≤ 16) (k : Nat) (hk : k < n) :
    (s.storeRegs n).readMem (dataAddr s.idx k) = s.readV (regOfNat k) := by
  induction n with
  | zero => omega
  | succ n ih =>
    rw [State.storeRegs, State.readMem_writeMem (State.storeRegs_wf h n)]
    split
    · next he => rw [dataAddr_inj (by omega) (by omega) he]
    · next he =>
      have : k ≠ n := fun hkn => he (by rw [hkn])
      exact ih (by omega) (by omega)

end Sys2Proof.Machine
end

