-- ==== Sys2Proof/Laws/Registers.lean ====
section
/-! SUPPORT. Laws of the register accessors: read after write, what each update leaves alone, and the loads of a run
of registers. -/

namespace Sys2Proof.Machine

/-- A register write changes `v` alone. -/
theorem State.writeV_eq (s : State) (x : Reg) (b : Byte) : s.writeV x b = s.setV (s.writeV x b).v := rfl

/-- A read after a write: the byte written to its register, the old byte in any other. -/
theorem State.readV_writeV (s : State) (x y : Reg) (b : Byte) :
    (s.writeV x b).readV y = if y = x then b else s.readV y := by
  simp only [State.readV, State.writeV, State.setV_v]
  rw [show (s.v.set x.val b)[y] = (s.v.set x.val b)[y.val] from rfl, Vector.getElem_set]
  simp only [Fin.val_inj, eq_comm (a := x)]
  rfl

@[simp] theorem State.readV_writeV_self (s : State) (x : Reg) (b : Byte) : (s.writeV x b).readV x = b := by
  simp [State.readV_writeV]

theorem State.readV_writeV_ne (s : State) {x y : Reg} (b : Byte) (h : y ≠ x) :
    (s.writeV x b).readV y = s.readV y := by
  simp [State.readV_writeV, h]

/-- Two states whose registers read alike have equal register files. -/
theorem State.v_ext {s t : State} (h : ∀ r : Reg, s.readV r = t.readV r) : s.v = t.v :=
  Vector.ext fun k hk => h ⟨k, hk⟩

theorem State.readV_congr {s t : State} (h : s.v = t.v) (r : Reg) : s.readV r = t.readV r := by
  simp [State.readV, h]

/-- The result, or the flag where the destination is VF (41_alu.md R181). -/
theorem State.readV_writeResultFlag (s : State) (x y : Reg) (result flag : Byte) :
    (s.writeResultFlag x result flag).readV y =
      if y = vf then flag else if y = x then result else s.readV y := by
  simp [State.writeResultFlag, State.readV_writeV]

theorem State.writeResultFlag_eq (s : State) (x : Reg) (result flag : Byte) :
    s.writeResultFlag x result flag = s.setV (s.writeResultFlag x result flag).v := rfl

/-- Loading registers changes `v` alone. -/
theorem State.loadRegs_eq (s : State) (n : Nat) : s.loadRegs n = s.setV (s.loadRegs n).v := by
  induction n with
  | zero => rfl
  | succ n ih => rw [State.loadRegs, ih]; rfl

theorem regOfNat_val (r : Reg) : regOfNat r.val = r := by
  apply Fin.ext
  simp [regOfNat]

/-- What a register holds after V0 .. V(n-1) are loaded from memory at I. -/
theorem State.readV_loadRegs (s : State) (n : Nat) (hn : n ≤ 16) (r : Reg) :
    (s.loadRegs n).readV r = if r.val < n then s.readMem (dataAddr s.idx r.val) else s.readV r := by
  induction n with
  | zero => simp [State.loadRegs]
  | succ n ih =>
    have hv : (regOfNat n).val = n := by simp [regOfNat]; omega
    rw [State.loadRegs, State.readV_writeV, ih (by omega)]
    by_cases hr : r = regOfNat n
    · subst hr; simp [hv]
    · have : r.val ≠ n := fun h => hr (Fin.ext (by rw [hv, h]))
      simp only [hr, if_false]
      split <;> split <;> first | rfl | omega

/-! ### Fields a register write leaves alone -/

@[simp] theorem State.writeV_cfg (s : State) (x : Reg) (b : Byte) : (s.writeV x b).cfg = s.cfg := rfl
@[simp] theorem State.writeV_mem (s : State) (x : Reg) (b : Byte) : (s.writeV x b).mem = s.mem := rfl
@[simp] theorem State.writeV_idx (s : State) (x : Reg) (b : Byte) : (s.writeV x b).idx = s.idx := rfl
@[simp] theorem State.writeV_pc (s : State) (x : Reg) (b : Byte) : (s.writeV x b).pc = s.pc := rfl
@[simp] theorem State.writeV_sp (s : State) (x : Reg) (b : Byte) : (s.writeV x b).sp = s.sp := rfl
@[simp] theorem State.writeV_stack (s : State) (x : Reg) (b : Byte) : (s.writeV x b).stack = s.stack := rfl
@[simp] theorem State.writeV_dt (s : State) (x : Reg) (b : Byte) : (s.writeV x b).dt = s.dt := rfl
@[simp] theorem State.writeV_st (s : State) (x : Reg) (b : Byte) : (s.writeV x b).st = s.st := rfl
@[simp] theorem State.writeV_disp (s : State) (x : Reg) (b : Byte) : (s.writeV x b).disp = s.disp := rfl
@[simp] theorem State.writeV_key (s : State) (x : Reg) (b : Byte) : (s.writeV x b).key = s.key := rfl
@[simp] theorem State.writeV_run (s : State) (x : Reg) (b : Byte) : (s.writeV x b).run = s.run := rfl
@[simp] theorem State.writeV_haltReason (s : State) (x : Reg) (b : Byte) : (s.writeV x b).haltReason = s.haltReason := rfl
@[simp] theorem State.writeV_haltWord (s : State) (x : Reg) (b : Byte) : (s.writeV x b).haltWord = s.haltWord := rfl
@[simp] theorem State.writeV_progLen (s : State) (x : Reg) (b : Byte) : (s.writeV x b).progLen = s.progLen := rfl
@[simp] theorem State.writeV_wait (s : State) (x : Reg) (b : Byte) : (s.writeV x b).wait = s.wait := rfl
@[simp] theorem State.writeV_waitReg (s : State) (x : Reg) (b : Byte) : (s.writeV x b).waitReg = s.waitReg := rfl
@[simp] theorem State.writeV_keySnap (s : State) (x : Reg) (b : Byte) : (s.writeV x b).keySnap = s.keySnap := rfl
@[simp] theorem State.writeV_draws (s : State) (x : Reg) (b : Byte) : (s.writeV x b).draws = s.draws := rfl

@[simp] theorem State.writeResultFlag_cfg (s : State) (x : Reg) (a b : Byte) :
    (s.writeResultFlag x a b).cfg = s.cfg := rfl
@[simp] theorem State.writeResultFlag_mem (s : State) (x : Reg) (a b : Byte) :
    (s.writeResultFlag x a b).mem = s.mem := rfl
@[simp] theorem State.writeResultFlag_idx (s : State) (x : Reg) (a b : Byte) :
    (s.writeResultFlag x a b).idx = s.idx := rfl
@[simp] theorem State.writeResultFlag_pc (s : State) (x : Reg) (a b : Byte) :
    (s.writeResultFlag x a b).pc = s.pc := rfl
@[simp] theorem State.writeResultFlag_sp (s : State) (x : Reg) (a b : Byte) :
    (s.writeResultFlag x a b).sp = s.sp := rfl
@[simp] theorem State.writeResultFlag_stack (s : State) (x : Reg) (a b : Byte) :
    (s.writeResultFlag x a b).stack = s.stack := rfl
@[simp] theorem State.writeResultFlag_dt (s : State) (x : Reg) (a b : Byte) :
    (s.writeResultFlag x a b).dt = s.dt := rfl
@[simp] theorem State.writeResultFlag_st (s : State) (x : Reg) (a b : Byte) :
    (s.writeResultFlag x a b).st = s.st := rfl
@[simp] theorem State.writeResultFlag_disp (s : State) (x : Reg) (a b : Byte) :
    (s.writeResultFlag x a b).disp = s.disp := rfl
@[simp] theorem State.writeResultFlag_key (s : State) (x : Reg) (a b : Byte) :
    (s.writeResultFlag x a b).key = s.key := rfl
@[simp] theorem State.writeResultFlag_run (s : State) (x : Reg) (a b : Byte) :
    (s.writeResultFlag x a b).run = s.run := rfl
@[simp] theorem State.writeResultFlag_haltReason (s : State) (x : Reg) (a b : Byte) :
    (s.writeResultFlag x a b).haltReason = s.haltReason := rfl
@[simp] theorem State.writeResultFlag_haltWord (s : State) (x : Reg) (a b : Byte) :
    (s.writeResultFlag x a b).haltWord = s.haltWord := rfl
@[simp] theorem State.writeResultFlag_progLen (s : State) (x : Reg) (a b : Byte) :
    (s.writeResultFlag x a b).progLen = s.progLen := rfl
@[simp] theorem State.writeResultFlag_wait (s : State) (x : Reg) (a b : Byte) :
    (s.writeResultFlag x a b).wait = s.wait := rfl
@[simp] theorem State.writeResultFlag_waitReg (s : State) (x : Reg) (a b : Byte) :
    (s.writeResultFlag x a b).waitReg = s.waitReg := rfl
@[simp] theorem State.writeResultFlag_keySnap (s : State) (x : Reg) (a b : Byte) :
    (s.writeResultFlag x a b).keySnap = s.keySnap := rfl
@[simp] theorem State.writeResultFlag_draws (s : State) (x : Reg) (a b : Byte) :
    (s.writeResultFlag x a b).draws = s.draws := rfl

/-! ### Updates that leave the registers alone -/

@[simp] theorem State.readV_setMem (s : State) (mem : Memory) (r : Reg) :
    (s.setMem mem).readV r = s.readV r := rfl
@[simp] theorem State.readV_setIdx (s : State) (idx : Word) (r : Reg) :
    (s.setIdx idx).readV r = s.readV r := rfl
@[simp] theorem State.readV_setPc (s : State) (pc : Word) (r : Reg) :
    (s.setPc pc).readV r = s.readV r := rfl
@[simp] theorem State.readV_setSp (s : State) (sp : Byte) (r : Reg) :
    (s.setSp sp).readV r = s.readV r := rfl
@[simp] theorem State.readV_setStack (s : State) (stack : List Word) (r : Reg) :
    (s.setStack stack).readV r = s.readV r := rfl
@[simp] theorem State.readV_setDt (s : State) (dt : Byte) (r : Reg) :
    (s.setDt dt).readV r = s.readV r := rfl
@[simp] theorem State.readV_setSt (s : State) (st : Byte) (r : Reg) :
    (s.setSt st).readV r = s.readV r := rfl
@[simp] theorem State.readV_setDisp (s : State) (disp : Display) (r : Reg) :
    (s.setDisp disp).readV r = s.readV r := rfl
@[simp] theorem State.readV_setKey (s : State) (key : Keys) (r : Reg) :
    (s.setKey key).readV r = s.readV r := rfl
@[simp] theorem State.readV_setRun (s : State) (run : RunState) (r : Reg) :
    (s.setRun run).readV r = s.readV r := rfl
@[simp] theorem State.readV_setHaltReason (s : State) (haltReason : BitVec 3) (r : Reg) :
    (s.setHaltReason haltReason).readV r = s.readV r := rfl
@[simp] theorem State.readV_setHaltWord (s : State) (haltWord : Word) (r : Reg) :
    (s.setHaltWord haltWord).readV r = s.readV r := rfl
@[simp] theorem State.readV_setProgLen (s : State) (progLen : Word) (r : Reg) :
    (s.setProgLen progLen).readV r = s.readV r := rfl
@[simp] theorem State.readV_setWait (s : State) (wait : Bool) (r : Reg) :
    (s.setWait wait).readV r = s.readV r := rfl
@[simp] theorem State.readV_setWaitReg (s : State) (waitReg : Reg) (r : Reg) :
    (s.setWaitReg waitReg).readV r = s.readV r := rfl
@[simp] theorem State.readV_setKeySnap (s : State) (keySnap : Keys) (r : Reg) :
    (s.setKeySnap keySnap).readV r = s.readV r := rfl
@[simp] theorem State.readV_setDraws (s : State) (draws : Nat) (r : Reg) :
    (s.setDraws draws).readV r = s.readV r := rfl
@[simp] theorem State.readV_writeMem (s : State) (a : Addr) (x : Byte) (r : Reg) :
    (s.writeMem a x).readV r = s.readV r := rfl

end Sys2Proof.Machine
end

