-- ==== Sys2Proof/Laws/Ops.lean ====
section
/-! SUPPORT. What the shared operations of Machine/Ops.lean leave alone, field by field, and what they write:
memory writes, the halt, the skip. -/

namespace Sys2Proof.Machine

@[simp] theorem State.writeMem_cfg (s : State) (a : Addr) (x : Byte) : (s.writeMem a x).cfg = s.cfg := rfl
@[simp] theorem State.writeMem_v (s : State) (a : Addr) (x : Byte) : (s.writeMem a x).v = s.v := rfl
@[simp] theorem State.writeMem_idx (s : State) (a : Addr) (x : Byte) : (s.writeMem a x).idx = s.idx := rfl
@[simp] theorem State.writeMem_pc (s : State) (a : Addr) (x : Byte) : (s.writeMem a x).pc = s.pc := rfl
@[simp] theorem State.writeMem_sp (s : State) (a : Addr) (x : Byte) : (s.writeMem a x).sp = s.sp := rfl
@[simp] theorem State.writeMem_stack (s : State) (a : Addr) (x : Byte) : (s.writeMem a x).stack = s.stack := rfl
@[simp] theorem State.writeMem_dt (s : State) (a : Addr) (x : Byte) : (s.writeMem a x).dt = s.dt := rfl
@[simp] theorem State.writeMem_st (s : State) (a : Addr) (x : Byte) : (s.writeMem a x).st = s.st := rfl
@[simp] theorem State.writeMem_disp (s : State) (a : Addr) (x : Byte) : (s.writeMem a x).disp = s.disp := rfl
@[simp] theorem State.writeMem_key (s : State) (a : Addr) (x : Byte) : (s.writeMem a x).key = s.key := rfl
@[simp] theorem State.writeMem_run (s : State) (a : Addr) (x : Byte) : (s.writeMem a x).run = s.run := rfl
@[simp] theorem State.writeMem_haltReason (s : State) (a : Addr) (x : Byte) : (s.writeMem a x).haltReason = s.haltReason := rfl
@[simp] theorem State.writeMem_haltWord (s : State) (a : Addr) (x : Byte) : (s.writeMem a x).haltWord = s.haltWord := rfl
@[simp] theorem State.writeMem_progLen (s : State) (a : Addr) (x : Byte) : (s.writeMem a x).progLen = s.progLen := rfl
@[simp] theorem State.writeMem_wait (s : State) (a : Addr) (x : Byte) : (s.writeMem a x).wait = s.wait := rfl
@[simp] theorem State.writeMem_waitReg (s : State) (a : Addr) (x : Byte) : (s.writeMem a x).waitReg = s.waitReg := rfl
@[simp] theorem State.writeMem_keySnap (s : State) (a : Addr) (x : Byte) : (s.writeMem a x).keySnap = s.keySnap := rfl
@[simp] theorem State.writeMem_draws (s : State) (a : Addr) (x : Byte) : (s.writeMem a x).draws = s.draws := rfl

@[simp] theorem State.storeBytes_cfg (s : State) (base : Word) (k : Nat) (bs : List Byte) :
    (s.storeBytes base k bs).cfg = s.cfg := by rw [State.storeBytes_eq]; rfl
@[simp] theorem State.storeBytes_v (s : State) (base : Word) (k : Nat) (bs : List Byte) :
    (s.storeBytes base k bs).v = s.v := by rw [State.storeBytes_eq]; rfl
@[simp] theorem State.storeBytes_idx (s : State) (base : Word) (k : Nat) (bs : List Byte) :
    (s.storeBytes base k bs).idx = s.idx := by rw [State.storeBytes_eq]; rfl
@[simp] theorem State.storeBytes_pc (s : State) (base : Word) (k : Nat) (bs : List Byte) :
    (s.storeBytes base k bs).pc = s.pc := by rw [State.storeBytes_eq]; rfl
@[simp] theorem State.storeBytes_sp (s : State) (base : Word) (k : Nat) (bs : List Byte) :
    (s.storeBytes base k bs).sp = s.sp := by rw [State.storeBytes_eq]; rfl
@[simp] theorem State.storeBytes_stack (s : State) (base : Word) (k : Nat) (bs : List Byte) :
    (s.storeBytes base k bs).stack = s.stack := by rw [State.storeBytes_eq]; rfl
@[simp] theorem State.storeBytes_dt (s : State) (base : Word) (k : Nat) (bs : List Byte) :
    (s.storeBytes base k bs).dt = s.dt := by rw [State.storeBytes_eq]; rfl
@[simp] theorem State.storeBytes_st (s : State) (base : Word) (k : Nat) (bs : List Byte) :
    (s.storeBytes base k bs).st = s.st := by rw [State.storeBytes_eq]; rfl
@[simp] theorem State.storeBytes_disp (s : State) (base : Word) (k : Nat) (bs : List Byte) :
    (s.storeBytes base k bs).disp = s.disp := by rw [State.storeBytes_eq]; rfl
@[simp] theorem State.storeBytes_key (s : State) (base : Word) (k : Nat) (bs : List Byte) :
    (s.storeBytes base k bs).key = s.key := by rw [State.storeBytes_eq]; rfl
@[simp] theorem State.storeBytes_run (s : State) (base : Word) (k : Nat) (bs : List Byte) :
    (s.storeBytes base k bs).run = s.run := by rw [State.storeBytes_eq]; rfl
@[simp] theorem State.storeBytes_haltReason (s : State) (base : Word) (k : Nat) (bs : List Byte) :
    (s.storeBytes base k bs).haltReason = s.haltReason := by rw [State.storeBytes_eq]; rfl
@[simp] theorem State.storeBytes_haltWord (s : State) (base : Word) (k : Nat) (bs : List Byte) :
    (s.storeBytes base k bs).haltWord = s.haltWord := by rw [State.storeBytes_eq]; rfl
@[simp] theorem State.storeBytes_progLen (s : State) (base : Word) (k : Nat) (bs : List Byte) :
    (s.storeBytes base k bs).progLen = s.progLen := by rw [State.storeBytes_eq]; rfl
@[simp] theorem State.storeBytes_wait (s : State) (base : Word) (k : Nat) (bs : List Byte) :
    (s.storeBytes base k bs).wait = s.wait := by rw [State.storeBytes_eq]; rfl
@[simp] theorem State.storeBytes_waitReg (s : State) (base : Word) (k : Nat) (bs : List Byte) :
    (s.storeBytes base k bs).waitReg = s.waitReg := by rw [State.storeBytes_eq]; rfl
@[simp] theorem State.storeBytes_keySnap (s : State) (base : Word) (k : Nat) (bs : List Byte) :
    (s.storeBytes base k bs).keySnap = s.keySnap := by rw [State.storeBytes_eq]; rfl
@[simp] theorem State.storeBytes_draws (s : State) (base : Word) (k : Nat) (bs : List Byte) :
    (s.storeBytes base k bs).draws = s.draws := by rw [State.storeBytes_eq]; rfl

@[simp] theorem State.storeRegs_cfg (s : State) (n : Nat) : (s.storeRegs n).cfg = s.cfg := by
  rw [State.storeRegs_eq]; rfl
@[simp] theorem State.storeRegs_v (s : State) (n : Nat) : (s.storeRegs n).v = s.v := by
  rw [State.storeRegs_eq]; rfl
@[simp] theorem State.storeRegs_idx (s : State) (n : Nat) : (s.storeRegs n).idx = s.idx := by
  rw [State.storeRegs_eq]; rfl
@[simp] theorem State.storeRegs_pc (s : State) (n : Nat) : (s.storeRegs n).pc = s.pc := by
  rw [State.storeRegs_eq]; rfl
@[simp] theorem State.storeRegs_sp (s : State) (n : Nat) : (s.storeRegs n).sp = s.sp := by
  rw [State.storeRegs_eq]; rfl
@[simp] theorem State.storeRegs_stack (s : State) (n : Nat) : (s.storeRegs n).stack = s.stack := by
  rw [State.storeRegs_eq]; rfl
@[simp] theorem State.storeRegs_dt (s : State) (n : Nat) : (s.storeRegs n).dt = s.dt := by
  rw [State.storeRegs_eq]; rfl
@[simp] theorem State.storeRegs_st (s : State) (n : Nat) : (s.storeRegs n).st = s.st := by
  rw [State.storeRegs_eq]; rfl
@[simp] theorem State.storeRegs_disp (s : State) (n : Nat) : (s.storeRegs n).disp = s.disp := by
  rw [State.storeRegs_eq]; rfl
@[simp] theorem State.storeRegs_key (s : State) (n : Nat) : (s.storeRegs n).key = s.key := by
  rw [State.storeRegs_eq]; rfl
@[simp] theorem State.storeRegs_run (s : State) (n : Nat) : (s.storeRegs n).run = s.run := by
  rw [State.storeRegs_eq]; rfl
@[simp] theorem State.storeRegs_haltReason (s : State) (n : Nat) : (s.storeRegs n).haltReason = s.haltReason := by
  rw [State.storeRegs_eq]; rfl
@[simp] theorem State.storeRegs_haltWord (s : State) (n : Nat) : (s.storeRegs n).haltWord = s.haltWord := by
  rw [State.storeRegs_eq]; rfl
@[simp] theorem State.storeRegs_progLen (s : State) (n : Nat) : (s.storeRegs n).progLen = s.progLen := by
  rw [State.storeRegs_eq]; rfl
@[simp] theorem State.storeRegs_wait (s : State) (n : Nat) : (s.storeRegs n).wait = s.wait := by
  rw [State.storeRegs_eq]; rfl
@[simp] theorem State.storeRegs_waitReg (s : State) (n : Nat) : (s.storeRegs n).waitReg = s.waitReg := by
  rw [State.storeRegs_eq]; rfl
@[simp] theorem State.storeRegs_keySnap (s : State) (n : Nat) : (s.storeRegs n).keySnap = s.keySnap := by
  rw [State.storeRegs_eq]; rfl
@[simp] theorem State.storeRegs_draws (s : State) (n : Nat) : (s.storeRegs n).draws = s.draws := by
  rw [State.storeRegs_eq]; rfl

@[simp] theorem State.loadRegs_cfg (s : State) (n : Nat) : (s.loadRegs n).cfg = s.cfg := by
  rw [State.loadRegs_eq]; rfl
@[simp] theorem State.loadRegs_mem (s : State) (n : Nat) : (s.loadRegs n).mem = s.mem := by
  rw [State.loadRegs_eq]; rfl
@[simp] theorem State.loadRegs_idx (s : State) (n : Nat) : (s.loadRegs n).idx = s.idx := by
  rw [State.loadRegs_eq]; rfl
@[simp] theorem State.loadRegs_pc (s : State) (n : Nat) : (s.loadRegs n).pc = s.pc := by
  rw [State.loadRegs_eq]; rfl
@[simp] theorem State.loadRegs_sp (s : State) (n : Nat) : (s.loadRegs n).sp = s.sp := by
  rw [State.loadRegs_eq]; rfl
@[simp] theorem State.loadRegs_stack (s : State) (n : Nat) : (s.loadRegs n).stack = s.stack := by
  rw [State.loadRegs_eq]; rfl
@[simp] theorem State.loadRegs_dt (s : State) (n : Nat) : (s.loadRegs n).dt = s.dt := by
  rw [State.loadRegs_eq]; rfl
@[simp] theorem State.loadRegs_st (s : State) (n : Nat) : (s.loadRegs n).st = s.st := by
  rw [State.loadRegs_eq]; rfl
@[simp] theorem State.loadRegs_disp (s : State) (n : Nat) : (s.loadRegs n).disp = s.disp := by
  rw [State.loadRegs_eq]; rfl
@[simp] theorem State.loadRegs_key (s : State) (n : Nat) : (s.loadRegs n).key = s.key := by
  rw [State.loadRegs_eq]; rfl
@[simp] theorem State.loadRegs_run (s : State) (n : Nat) : (s.loadRegs n).run = s.run := by
  rw [State.loadRegs_eq]; rfl
@[simp] theorem State.loadRegs_haltReason (s : State) (n : Nat) : (s.loadRegs n).haltReason = s.haltReason := by
  rw [State.loadRegs_eq]; rfl
@[simp] theorem State.loadRegs_haltWord (s : State) (n : Nat) : (s.loadRegs n).haltWord = s.haltWord := by
  rw [State.loadRegs_eq]; rfl
@[simp] theorem State.loadRegs_progLen (s : State) (n : Nat) : (s.loadRegs n).progLen = s.progLen := by
  rw [State.loadRegs_eq]; rfl
@[simp] theorem State.loadRegs_wait (s : State) (n : Nat) : (s.loadRegs n).wait = s.wait := by
  rw [State.loadRegs_eq]; rfl
@[simp] theorem State.loadRegs_waitReg (s : State) (n : Nat) : (s.loadRegs n).waitReg = s.waitReg := by
  rw [State.loadRegs_eq]; rfl
@[simp] theorem State.loadRegs_keySnap (s : State) (n : Nat) : (s.loadRegs n).keySnap = s.keySnap := by
  rw [State.loadRegs_eq]; rfl
@[simp] theorem State.loadRegs_draws (s : State) (n : Nat) : (s.loadRegs n).draws = s.draws := by
  rw [State.loadRegs_eq]; rfl

/-! ### Updates that leave memory alone -/

@[simp] theorem State.readMem_setIdx (s : State) (idx : Word) (a : Addr) :
    (s.setIdx idx).readMem a = s.readMem a := rfl
@[simp] theorem State.readMem_setPc (s : State) (pc : Word) (a : Addr) :
    (s.setPc pc).readMem a = s.readMem a := rfl
@[simp] theorem State.readMem_setSp (s : State) (sp : Byte) (a : Addr) :
    (s.setSp sp).readMem a = s.readMem a := rfl
@[simp] theorem State.readMem_setStack (s : State) (stack : List Word) (a : Addr) :
    (s.setStack stack).readMem a = s.readMem a := rfl
@[simp] theorem State.readMem_setDt (s : State) (dt : Byte) (a : Addr) :
    (s.setDt dt).readMem a = s.readMem a := rfl
@[simp] theorem State.readMem_setSt (s : State) (st : Byte) (a : Addr) :
    (s.setSt st).readMem a = s.readMem a := rfl
@[simp] theorem State.readMem_setDisp (s : State) (disp : Display) (a : Addr) :
    (s.setDisp disp).readMem a = s.readMem a := rfl
@[simp] theorem State.readMem_setKey (s : State) (key : Keys) (a : Addr) :
    (s.setKey key).readMem a = s.readMem a := rfl
@[simp] theorem State.readMem_setRun (s : State) (run : RunState) (a : Addr) :
    (s.setRun run).readMem a = s.readMem a := rfl
@[simp] theorem State.readMem_setHaltReason (s : State) (haltReason : BitVec 3) (a : Addr) :
    (s.setHaltReason haltReason).readMem a = s.readMem a := rfl
@[simp] theorem State.readMem_setHaltWord (s : State) (haltWord : Word) (a : Addr) :
    (s.setHaltWord haltWord).readMem a = s.readMem a := rfl
@[simp] theorem State.readMem_setProgLen (s : State) (progLen : Word) (a : Addr) :
    (s.setProgLen progLen).readMem a = s.readMem a := rfl
@[simp] theorem State.readMem_setWait (s : State) (wait : Bool) (a : Addr) :
    (s.setWait wait).readMem a = s.readMem a := rfl
@[simp] theorem State.readMem_setWaitReg (s : State) (waitReg : Reg) (a : Addr) :
    (s.setWaitReg waitReg).readMem a = s.readMem a := rfl
@[simp] theorem State.readMem_setKeySnap (s : State) (keySnap : Keys) (a : Addr) :
    (s.setKeySnap keySnap).readMem a = s.readMem a := rfl
@[simp] theorem State.readMem_setDraws (s : State) (draws : Nat) (a : Addr) :
    (s.setDraws draws).readMem a = s.readMem a := rfl
@[simp] theorem State.readMem_setV (s : State) (v : Vector Byte 16) (a : Addr) :
    (s.setV v).readMem a = s.readMem a := rfl
@[simp] theorem State.readMem_writeV (s : State) (x : Reg) (b : Byte) (a : Addr) :
    (s.writeV x b).readMem a = s.readMem a := rfl

/-! ### `raise Halt` (60_exceptions.md R302) -/

@[simp] theorem State.raiseHalt_cfg (s : State) (e : RuntimeError) : (s.raiseHalt e).cfg = s.cfg := rfl
@[simp] theorem State.raiseHalt_mem (s : State) (e : RuntimeError) : (s.raiseHalt e).mem = s.mem := rfl
@[simp] theorem State.raiseHalt_v (s : State) (e : RuntimeError) : (s.raiseHalt e).v = s.v := rfl
@[simp] theorem State.raiseHalt_idx (s : State) (e : RuntimeError) : (s.raiseHalt e).idx = s.idx := rfl
@[simp] theorem State.raiseHalt_pc (s : State) (e : RuntimeError) : (s.raiseHalt e).pc = s.pc := rfl
@[simp] theorem State.raiseHalt_sp (s : State) (e : RuntimeError) : (s.raiseHalt e).sp = s.sp := rfl
@[simp] theorem State.raiseHalt_stack (s : State) (e : RuntimeError) : (s.raiseHalt e).stack = s.stack := rfl
@[simp] theorem State.raiseHalt_dt (s : State) (e : RuntimeError) : (s.raiseHalt e).dt = s.dt := rfl
@[simp] theorem State.raiseHalt_st (s : State) (e : RuntimeError) : (s.raiseHalt e).st = s.st := rfl
@[simp] theorem State.raiseHalt_disp (s : State) (e : RuntimeError) : (s.raiseHalt e).disp = s.disp := rfl
@[simp] theorem State.raiseHalt_key (s : State) (e : RuntimeError) : (s.raiseHalt e).key = s.key := rfl
@[simp] theorem State.raiseHalt_run (s : State) (e : RuntimeError) : (s.raiseHalt e).run = .halted := rfl
@[simp] theorem State.raiseHalt_haltReason (s : State) (e : RuntimeError) : (s.raiseHalt e).haltReason = e.code := rfl
@[simp] theorem State.raiseHalt_haltWord (s : State) (e : RuntimeError) : (s.raiseHalt e).haltWord = e.word := rfl
@[simp] theorem State.raiseHalt_progLen (s : State) (e : RuntimeError) : (s.raiseHalt e).progLen = s.progLen := rfl
@[simp] theorem State.raiseHalt_wait (s : State) (e : RuntimeError) : (s.raiseHalt e).wait = s.wait := rfl
@[simp] theorem State.raiseHalt_waitReg (s : State) (e : RuntimeError) : (s.raiseHalt e).waitReg = s.waitReg := rfl
@[simp] theorem State.raiseHalt_keySnap (s : State) (e : RuntimeError) : (s.raiseHalt e).keySnap = s.keySnap := rfl
@[simp] theorem State.raiseHalt_draws (s : State) (e : RuntimeError) : (s.raiseHalt e).draws = s.draws := rfl
@[simp] theorem State.readV_raiseHalt (s : State) (e : RuntimeError) (r : Reg) :
    (s.raiseHalt e).readV r = s.readV r := rfl
@[simp] theorem State.readMem_raiseHalt (s : State) (e : RuntimeError) (a : Addr) :
    (s.raiseHalt e).readMem a = s.readMem a := rfl

/-- Every runtime error has a code from 1 to 5 (60_exceptions.md R301). -/
theorem RuntimeError.code_range (e : RuntimeError) : 1 ≤ e.code.toNat ∧ e.code.toNat ≤ 5 := by
  cases e <;> simp [RuntimeError.code]

/-! ### The program counter -/

/-- A skip writes PC alone. -/
theorem State.skipIf_eq (s : State) (c : Bool) :
    s.skipIf c = s.setPc (if c then skipTarget s.pc else s.pc) := by
  cases c <;> rfl

@[simp] theorem State.skipIf_cfg (s : State) (c : Bool) : (s.skipIf c).cfg = s.cfg := by
  rw [State.skipIf_eq]; rfl
@[simp] theorem State.skipIf_mem (s : State) (c : Bool) : (s.skipIf c).mem = s.mem := by
  rw [State.skipIf_eq]; rfl
@[simp] theorem State.skipIf_v (s : State) (c : Bool) : (s.skipIf c).v = s.v := by
  rw [State.skipIf_eq]; rfl
@[simp] theorem State.skipIf_idx (s : State) (c : Bool) : (s.skipIf c).idx = s.idx := by
  rw [State.skipIf_eq]; rfl
@[simp] theorem State.skipIf_sp (s : State) (c : Bool) : (s.skipIf c).sp = s.sp := by
  rw [State.skipIf_eq]; rfl
@[simp] theorem State.skipIf_stack (s : State) (c : Bool) : (s.skipIf c).stack = s.stack := by
  rw [State.skipIf_eq]; rfl
@[simp] theorem State.skipIf_dt (s : State) (c : Bool) : (s.skipIf c).dt = s.dt := by
  rw [State.skipIf_eq]; rfl
@[simp] theorem State.skipIf_st (s : State) (c : Bool) : (s.skipIf c).st = s.st := by
  rw [State.skipIf_eq]; rfl
@[simp] theorem State.skipIf_disp (s : State) (c : Bool) : (s.skipIf c).disp = s.disp := by
  rw [State.skipIf_eq]; rfl
@[simp] theorem State.skipIf_key (s : State) (c : Bool) : (s.skipIf c).key = s.key := by
  rw [State.skipIf_eq]; rfl
@[simp] theorem State.skipIf_run (s : State) (c : Bool) : (s.skipIf c).run = s.run := by
  rw [State.skipIf_eq]; rfl
@[simp] theorem State.skipIf_haltReason (s : State) (c : Bool) : (s.skipIf c).haltReason = s.haltReason := by
  rw [State.skipIf_eq]; rfl
@[simp] theorem State.skipIf_haltWord (s : State) (c : Bool) : (s.skipIf c).haltWord = s.haltWord := by
  rw [State.skipIf_eq]; rfl
@[simp] theorem State.skipIf_progLen (s : State) (c : Bool) : (s.skipIf c).progLen = s.progLen := by
  rw [State.skipIf_eq]; rfl
@[simp] theorem State.skipIf_wait (s : State) (c : Bool) : (s.skipIf c).wait = s.wait := by
  rw [State.skipIf_eq]; rfl
@[simp] theorem State.skipIf_waitReg (s : State) (c : Bool) : (s.skipIf c).waitReg = s.waitReg := by
  rw [State.skipIf_eq]; rfl
@[simp] theorem State.skipIf_keySnap (s : State) (c : Bool) : (s.skipIf c).keySnap = s.keySnap := by
  rw [State.skipIf_eq]; rfl
@[simp] theorem State.skipIf_draws (s : State) (c : Bool) : (s.skipIf c).draws = s.draws := by
  rw [State.skipIf_eq]; rfl
@[simp] theorem State.skipIf_pc (s : State) (c : Bool) :
    (s.skipIf c).pc = if c then skipTarget s.pc else s.pc := by
  rw [State.skipIf_eq]; rfl
@[simp] theorem State.readV_skipIf (s : State) (c : Bool) (r : Reg) : (s.skipIf c).readV r = s.readV r := by
  rw [State.skipIf_eq]; rfl
@[simp] theorem State.readMem_skipIf (s : State) (c : Bool) (a : Addr) :
    (s.skipIf c).readMem a = s.readMem a := by
  rw [State.skipIf_eq]; rfl

/-- "Advance PC by 2 before dispatch" writes PC alone (30_encoding.md R139). -/
theorem State.advancePc_eq (s : State) : s.advancePc = s.setPc (s.pc + 2) := rfl

@[simp] theorem State.advancePc_cfg (s : State) : s.advancePc.cfg = s.cfg := rfl
@[simp] theorem State.advancePc_mem (s : State) : s.advancePc.mem = s.mem := rfl
@[simp] theorem State.advancePc_v (s : State) : s.advancePc.v = s.v := rfl
@[simp] theorem State.advancePc_idx (s : State) : s.advancePc.idx = s.idx := rfl
@[simp] theorem State.advancePc_pc (s : State) : s.advancePc.pc = s.pc + 2 := rfl
@[simp] theorem State.advancePc_sp (s : State) : s.advancePc.sp = s.sp := rfl
@[simp] theorem State.advancePc_stack (s : State) : s.advancePc.stack = s.stack := rfl
@[simp] theorem State.advancePc_dt (s : State) : s.advancePc.dt = s.dt := rfl
@[simp] theorem State.advancePc_st (s : State) : s.advancePc.st = s.st := rfl
@[simp] theorem State.advancePc_disp (s : State) : s.advancePc.disp = s.disp := rfl
@[simp] theorem State.advancePc_key (s : State) : s.advancePc.key = s.key := rfl
@[simp] theorem State.advancePc_run (s : State) : s.advancePc.run = s.run := rfl
@[simp] theorem State.advancePc_haltReason (s : State) : s.advancePc.haltReason = s.haltReason := rfl
@[simp] theorem State.advancePc_haltWord (s : State) : s.advancePc.haltWord = s.haltWord := rfl
@[simp] theorem State.advancePc_progLen (s : State) : s.advancePc.progLen = s.progLen := rfl
@[simp] theorem State.advancePc_wait (s : State) : s.advancePc.wait = s.wait := rfl
@[simp] theorem State.advancePc_waitReg (s : State) : s.advancePc.waitReg = s.waitReg := rfl
@[simp] theorem State.advancePc_keySnap (s : State) : s.advancePc.keySnap = s.keySnap := rfl
@[simp] theorem State.advancePc_draws (s : State) : s.advancePc.draws = s.draws := rfl
@[simp] theorem State.readV_advancePc (s : State) (r : Reg) : s.advancePc.readV r = s.readV r := rfl
@[simp] theorem State.readMem_advancePc (s : State) (a : Addr) : s.advancePc.readMem a = s.readMem a := rfl

/-! ### The call stack -/

/-- A stack write that succeeds changes one entry, and fails only where the entry does not exist. -/
theorem State.writeStack_eq_some {s t : State} {k : Nat} {r : Word} :
    s.writeStack k r = some t ↔ k < s.stack.length ∧ t = s.setStack (s.stack.set k r) := by
  unfold State.writeStack
  split
  · next h => simp [h, eq_comm]
  · next h => simp [h]

theorem State.writeStack_eq_none {s : State} {k : Nat} {r : Word} :
    s.writeStack k r = none ↔ s.stack.length ≤ k := by
  unfold State.writeStack
  split <;> simp_all

theorem State.readStack_isSome {s : State} {k : Nat} (h : k < s.stack.length) :
    s.readStack k = some s.stack[k] := by
  simp [State.readStack, h]

end Sys2Proof.Machine
end

