-- ==== Sys2Proof/Laws/Construct.lean ====
section
/-! SUPPORT. Laws of construction (70_reset_and_hazards.md R350): installing FONT writes memory alone, and what every
field is after construction. -/

namespace Sys2Proof.Machine

/-! Installing FONT writes memory alone. -/
@[simp] theorem State.installFont_cfg (s : State) : s.installFont.cfg = s.cfg := by simp [State.installFont]
@[simp] theorem State.installFont_v (s : State) : s.installFont.v = s.v := by simp [State.installFont]
@[simp] theorem State.installFont_idx (s : State) : s.installFont.idx = s.idx := by simp [State.installFont]
@[simp] theorem State.installFont_pc (s : State) : s.installFont.pc = s.pc := by simp [State.installFont]
@[simp] theorem State.installFont_sp (s : State) : s.installFont.sp = s.sp := by simp [State.installFont]
@[simp] theorem State.installFont_stack (s : State) : s.installFont.stack = s.stack := by simp [State.installFont]
@[simp] theorem State.installFont_dt (s : State) : s.installFont.dt = s.dt := by simp [State.installFont]
@[simp] theorem State.installFont_st (s : State) : s.installFont.st = s.st := by simp [State.installFont]
@[simp] theorem State.installFont_disp (s : State) : s.installFont.disp = s.disp := by simp [State.installFont]
@[simp] theorem State.installFont_key (s : State) : s.installFont.key = s.key := by simp [State.installFont]
@[simp] theorem State.installFont_run (s : State) : s.installFont.run = s.run := by simp [State.installFont]
@[simp] theorem State.installFont_haltReason (s : State) : s.installFont.haltReason = s.haltReason := by simp [State.installFont]
@[simp] theorem State.installFont_haltWord (s : State) : s.installFont.haltWord = s.haltWord := by simp [State.installFont]
@[simp] theorem State.installFont_progLen (s : State) : s.installFont.progLen = s.progLen := by simp [State.installFont]
@[simp] theorem State.installFont_wait (s : State) : s.installFont.wait = s.wait := by simp [State.installFont]
@[simp] theorem State.installFont_waitReg (s : State) : s.installFont.waitReg = s.waitReg := by simp [State.installFont]
@[simp] theorem State.installFont_keySnap (s : State) : s.installFont.keySnap = s.keySnap := by simp [State.installFont]
@[simp] theorem State.installFont_draws (s : State) : s.installFont.draws = s.draws := by simp [State.installFont]

theorem State.installFont_wf {s : State} (h : s.mem.wf = true) : s.installFont.mem.wf = true :=
  State.storeBytes_wf h _ _ _

/-! The fields after construction. -/
@[simp] theorem State.construct_cfg (p : Params) : (State.construct p).cfg = p := by simp [State.construct]
@[simp] theorem State.construct_v (p : Params) : (State.construct p).v = Vector.replicate 16 0 := by
  simp [State.construct]
@[simp] theorem State.construct_idx (p : Params) : (State.construct p).idx = 0 := by simp [State.construct]
@[simp] theorem State.construct_pc (p : Params) : (State.construct p).pc = 0 := by simp [State.construct]
@[simp] theorem State.construct_sp (p : Params) : (State.construct p).sp = 0 := by simp [State.construct]
@[simp] theorem State.construct_stack (p : Params) : (State.construct p).stack = List.replicate p.depth 0 := by
  simp [State.construct]
@[simp] theorem State.construct_dt (p : Params) : (State.construct p).dt = 0 := by simp [State.construct]
@[simp] theorem State.construct_st (p : Params) : (State.construct p).st = 0 := by simp [State.construct]
@[simp] theorem State.construct_disp (p : Params) : (State.construct p).disp = Display.blank := by
  simp [State.construct]
@[simp] theorem State.construct_key (p : Params) : (State.construct p).key = Keys.none := by simp [State.construct]
@[simp] theorem State.construct_run (p : Params) : (State.construct p).run = .paused := by simp [State.construct]
@[simp] theorem State.construct_haltReason (p : Params) : (State.construct p).haltReason = 0 := by
  simp [State.construct]
@[simp] theorem State.construct_haltWord (p : Params) : (State.construct p).haltWord = 0 := by simp [State.construct]
@[simp] theorem State.construct_progLen (p : Params) : (State.construct p).progLen = 0 := by simp [State.construct]
@[simp] theorem State.construct_wait (p : Params) : (State.construct p).wait = false := by simp [State.construct]
@[simp] theorem State.construct_waitReg (p : Params) : (State.construct p).waitReg = 0 := by simp [State.construct]
@[simp] theorem State.construct_keySnap (p : Params) : (State.construct p).keySnap = Keys.none := by
  simp [State.construct]
@[simp] theorem State.construct_draws (p : Params) : (State.construct p).draws = 0 := by simp [State.construct]

theorem State.construct_wf (p : Params) : (State.construct p).mem.wf = true := State.installFont_wf rfl

/-- The state after reset is the constructed state of the default parameters: their FONT is what unlisted cells read
as, so that no cell is listed. -/
theorem State.reset_eq_construct : State.reset = State.construct Params.standard := by decide

end Sys2Proof.Machine
end

