-- ==== Sys2Proof/Laws/Command.lean ====
section
/-! SUPPORT. What the host's commands can do to a state, said once. -/

namespace Sys2Proof.Machine

/-- A tick writes the two timers alone (60_exceptions.md R320). -/
theorem State.tick_eq (s : State) : s.tick = (s.setDt s.tick.dt).setSt s.tick.st := by
  unfold State.tick
  split <;> rfl

/-- A tick counts both timers down, or leaves them while Paused (60_exceptions.md R321). -/
theorem State.tick_cases (s : State) :
    (s.run = .paused ∧ s.cfg.timersWhilePaused = false ∧ s.tick = s) ∨
    ((s.run ≠ .paused ∨ s.cfg.timersWhilePaused = true) ∧
      s.tick = (s.setDt (countDown s.dt)).setSt (countDown s.st)) := by
  unfold State.tick
  by_cases h : s.run = .paused
  · cases ht : s.cfg.timersWhilePaused with
    | false => exact .inl ⟨h, rfl, by simp [h]⟩
    | true => exact .inr ⟨.inr rfl, by simp⟩
  · exact .inr ⟨.inl h, by simp [h]⟩

theorem countDown_toNat (d : Byte) : (countDown d).toNat = d.toNat - 1 := by
  unfold countDown
  split
  · next h => simp [h]
  · next h => bv_omega

/-- `set_run_state` writes RUN alone, and nothing when Halted (60_exceptions.md R332). -/
theorem State.setRunState_cases (s : State) (r : RunRequest) :
    (s.run = .halted ∧ s.setRunState r = s) ∨
    (s.run ≠ .halted ∧ s.setRunState r = s.setRun (match r with | .running => .running | .paused => .paused)) := by
  unfold State.setRunState
  cases h : s.run <;> cases r <;> simp

/-- A load writes memory, PROG_LEN, PC and RUN alone (70_reset_and_hazards.md R352). -/
theorem State.loadImage_eq (s : State) (bytes : List Byte) :
    s.loadImage bytes =
      (((s.setMem (s.loadImage bytes).mem).setProgLen (BitVec.ofNat 16 bytes.length)).setPc
        (BitVec.ofNat 16 Config.entry)).setRun .running := by
  apply State.ext_fields <;> simp [State.loadImage]

theorem State.loadImage_wf {s : State} (h : s.mem.wf = true) (bytes : List Byte) :
    (s.loadImage bytes).mem.wf = true := by
  simp only [State.loadImage, State.setRun_mem, State.setPc_mem, State.setProgLen_mem]
  exact State.installFont_wf (State.storeBytes_wf h _ _ _)

end Sys2Proof.Machine
end

