-- ==== Sys2Proof/Laws/Display.lean ====
section
/-! SUPPORT. Laws of the display: a flip changes one pixel, a blank display is dark, and what one sprite bit does. -/

namespace Sys2Proof.Machine

theorem Display.ext_get {d e : Display} (h : ∀ px py, d.get px py = e.get px py) : d = e :=
  Vector.ext fun y hy => Vector.ext fun x hx => h ⟨x, hx⟩ ⟨y, hy⟩

@[simp] theorem Display.get_blank (px : Fin 64) (py : Fin 32) : Display.blank.get px py = false := by
  simp [Display.get, Display.blank]

/-- A flip inverts its pixel and leaves every other pixel alone. -/
theorem Display.get_flip (d : Display) (px qx : Fin 64) (py qy : Fin 32) :
    (d.flip px py).get qx qy = (d.get qx qy ^^ decide (qx = px ∧ qy = py)) := by
  simp only [Display.get, Display.flip, Fin.getElem_fin, Vector.getElem_set]
  by_cases hy : py.val = qy.val
  · have hy' : qy = py := (Fin.ext hy).symm
    subst hy'
    simp only [if_true, Vector.getElem_set]
    by_cases hx : px.val = qx.val
    · have hx' : qx = px := (Fin.ext hx).symm
      subst hx'
      simp
    · have hx' : ¬ qx = px := fun h => hx (by rw [h])
      simp [hx, hx']
  · have hy' : ¬ qy = py := fun h => hy (by rw [h])
    simp [hy, hy']

/-- What one sprite bit does to a pixel: it inverts it if the bit is set and falls there. -/
theorem drawBit_pixel (edge : DrawEdge) (cx cy : Nat) (bit : Bool) (a : DrawState) (qx : Fin 64) (qy : Fin 32) :
    (drawBit edge cx cy bit a).1.get qx qy =
      (a.1.get qx qy ^^ (bit && decide (place edge cx cy = some (qx, qy)))) := by
  unfold drawBit
  cases bit with
  | false => simp
  | true =>
    cases h : place edge cx cy with
    | none => simp
    | some p => simp [Display.get_flip, Prod.ext_iff, eq_comm]

/-- What one sprite bit does to the collision so far: it sets it if the bit is set and falls on a lit pixel. -/
theorem drawBit_collision (edge : DrawEdge) (cx cy : Nat) (bit : Bool) (a : DrawState) :
    (drawBit edge cx cy bit a).2 = true ↔
      a.2 = true ∨ bit = true ∧ ∃ px py, place edge cx cy = some (px, py) ∧ a.1.get px py = true := by
  unfold drawBit
  cases bit with
  | false => simp
  | true =>
    cases h : place edge cx cy with
    | none => simp
    | some p =>
      obtain ⟨px, py⟩ := p
      constructor
      · intro hc
        rcases Bool.or_eq_true_iff.1 hc with hc | hc
        · exact .inl hc
        · exact .inr ⟨rfl, px, py, rfl, hc⟩
      · rintro (hc | ⟨-, qx, qy, hq, hc⟩)
        · simp [hc]
        · obtain ⟨rfl, rfl⟩ : px = qx ∧ py = qy := by simpa using hq
          simp [hc]

/-- Where a bit lands under the clip policy (43_display.md R245). -/
theorem place_clip {cx cy : Nat} {px : Fin 64} {py : Fin 32} :
    place .clip cx cy = some (px, py) ↔ cx = px.val ∧ cy = py.val := by
  have hx := px.isLt
  have hy := py.isLt
  by_cases h : cx < 64 ∧ cy < 32
  · simp [place, h, Fin.ext_iff]
  · simp only [place, h, dite_false, reduceCtorEq, false_iff]
    omega

/-- Where a bit lands under the wrap policy (43_display.md R246). -/
theorem place_wrap {cx cy : Nat} {px : Fin 64} {py : Fin 32} :
    place .wrap cx cy = some (px, py) ↔ cx % 64 = px.val ∧ cy % 32 = py.val := by
  simp [place, Fin.ext_iff, Fin.ofNat]

end Sys2Proof.Machine
end

