-- ==== Sys2Proof/Laws/Encoding.lean ====
section
/-! SUPPORT. The fields of a word laid out in each format (30_encoding.md R112, R115), and the bytes of a word. -/

namespace Sys2Proof

theorem regOfBits_bitsOfReg (r : Reg) : regOfBits (bitsOfReg r) = r := by
  apply Fin.ext
  simp [regOfBits, bitsOfReg]

theorem bitsOfReg_regOfBits (b : Nibble) : bitsOfReg (regOfBits b) = b := by
  simp [regOfBits, bitsOfReg]

/-- Big-endian and back (20_memory.md R86). -/
theorem wordOfBytes_split (w : Word) : wordOfBytes (highByte w) (lowByte w) = w := by
  apply BitVec.eq_of_toNat_eq
  simp only [wordOfBytes, highByte, lowByte, BitVec.toNat_append, BitVec.extractLsb'_toNat, Nat.shiftRight_eq_div_pow,
    Nat.shiftLeft_eq]
  have := w.isLt
  rw [Nat.mul_comm, ← Nat.two_pow_add_eq_or_of_lt (by omega)]
  omega

theorem toNat_append_of {m n : Nat} (a : BitVec m) (b : BitVec n) :
    (a ++ b).toNat = a.toNat * 2 ^ n + b.toNat := by
  rw [BitVec.toNat_append, Nat.shiftLeft_eq, Nat.mul_comm, ← Nat.two_pow_add_eq_or_of_lt b.isLt]

@[simp] theorem toNat_wordA (op : Nibble) (nnn : Addr) : (wordA op nnn).toNat = op.toNat * 4096 + nnn.toNat :=
  toNat_append_of op nnn

@[simp] theorem toNat_wordXB (op : Nibble) (x : Reg) (nn : Byte) :
    (wordXB op x nn).toNat = op.toNat * 4096 + x.val * 256 + nn.toNat := by
  have h : (wordXB op x nn).toNat = (op ++ bitsOfReg x).toNat * 2 ^ 8 + nn.toNat := toNat_append_of _ nn
  have hx : (bitsOfReg x).toNat = x.val := by simp [bitsOfReg]
  rw [h, toNat_append_of, hx]
  omega

@[simp] theorem toNat_wordXY (op : Nibble) (x y : Reg) (n : Nibble) :
    (wordXY op x y n).toNat = op.toNat * 4096 + x.val * 256 + y.val * 16 + n.toNat := by
  have h : (wordXY op x y n).toNat = (op ++ bitsOfReg x).toNat * 2 ^ 8 + (bitsOfReg y ++ n).toNat :=
    toNat_append_of _ _
  have hx : (bitsOfReg x).toNat = x.val := by simp [bitsOfReg]
  have hy : (bitsOfReg y).toNat = y.val := by simp [bitsOfReg]
  rw [h, toNat_append_of, toNat_append_of, hx, hy]
  omega

/-! Each field as arithmetic on the word's value. -/

theorem opField_toNat (w : Word) : (opField w).toNat = w.toNat / 4096 := by
  simp only [opField, BitVec.extractLsb'_toNat, Nat.shiftRight_eq_div_pow]
  have := w.isLt
  omega

theorem xField_val (w : Word) : (xField w).val = w.toNat / 256 % 16 := by
  simp [xField, regOfBits, xBits, BitVec.extractLsb'_toNat, Nat.shiftRight_eq_div_pow]

theorem yField_val (w : Word) : (yField w).val = w.toNat / 16 % 16 := by
  simp [yField, regOfBits, yBits, BitVec.extractLsb'_toNat, Nat.shiftRight_eq_div_pow]

theorem nField_toNat (w : Word) : (nField w).toNat = w.toNat % 16 := by
  simp [nField, BitVec.extractLsb'_toNat]

theorem nnField_toNat (w : Word) : (nnField w).toNat = w.toNat % 256 := by
  simp [nnField, BitVec.extractLsb'_toNat]

theorem nnnField_toNat (w : Word) : (nnnField w).toNat = w.toNat % 4096 := by
  simp [nnnField, BitVec.extractLsb'_toNat]

end Sys2Proof
end

