-- ==== Sys2Proof/Laws/Exec.lean ====
section
/-! SUPPORT. Everything the two instructions with more than one outcome can do, said once (40_flow.md R150, R152). -/

namespace Sys2Proof.Machine

/-- RET: underflow, a pop, or a stack entry that does not exist. -/
theorem execRet_cases (s : State) :
    (s.sp = 0 ∧ execRet s = .next (s.raiseHalt .stackUnderflow)) ∨
    (s.sp ≠ 0 ∧ ∃ r, s.readStack (s.sp - 1).toNat = some r ∧
      execRet s = .next ((s.setSp (s.sp - 1)).setPc r)) ∨
    (s.sp ≠ 0 ∧ s.readStack (s.sp - 1).toNat = none ∧
      execRet s = .fault (.stackIndexOutOfRange (s.sp - 1).toNat)) := by
  by_cases h : s.sp = 0
  · exact .inl ⟨h, by simp [execRet, h]⟩
  · cases hr : s.readStack (s.sp - 1).toNat with
    | some r => exact .inr (.inl ⟨h, r, rfl, by rw [execRet, if_neg h, hr]⟩)
    | none => exact .inr (.inr ⟨h, rfl, by rw [execRet, if_neg h, hr]⟩)

/-- CALL: overflow, a push, or a stack entry that does not exist. -/
theorem execCall_cases (nnn : Addr) (s : State) :
    (s.sp.toNat = s.cfg.depth ∧ execCall nnn s = .next (s.raiseHalt .stackOverflow)) ∨
    (s.sp.toNat ≠ s.cfg.depth ∧ s.sp.toNat < s.stack.length ∧ execCall nnn s =
      .next (((s.setStack (s.stack.set s.sp.toNat s.pc)).setSp (s.sp + 1)).setPc (addressOperand nnn))) ∨
    (s.sp.toNat ≠ s.cfg.depth ∧ s.stack.length ≤ s.sp.toNat ∧
      execCall nnn s = .fault (.stackIndexOutOfRange s.sp.toNat)) := by
  by_cases h : s.sp.toNat = s.cfg.depth
  · exact .inl ⟨h, by simp [execCall, h]⟩
  · by_cases hk : s.sp.toNat < s.stack.length
    · exact .inr (.inl ⟨h, hk, by simp [execCall, h, State.writeStack, hk]⟩)
    · exact .inr (.inr ⟨h, by omega, by simp [execCall, h, State.writeStack, hk]⟩)

/-- Every instruction but RET and CALL answers a next state, whatever the state. -/
theorem exec_next (i : Instr) (s : State) (hr : i ≠ .ret) (hc : ∀ nnn, i ≠ .call nnn) : ∃ t, exec i s = .next t := by
  cases i <;> first | exact ⟨_, rfl⟩ | exact absurd rfl hr | exact absurd rfl (hc _)

end Sys2Proof.Machine
end

