-- ==== Sys2Proof/Laws/Keys.lean ====
section
/-! SUPPORT. Laws of the key poll: which key it takes and what it leaves alone. -/

namespace Sys2Proof.Machine

theorem mem_allKeys (k : Key) : k ∈ allKeys := by
  revert k; decide

theorem allKeys_sorted : allKeys.Pairwise (· < ·) := by decide

theorem State.firstPressed_none {s : State} : s.firstPressed = none ↔ ∀ k, s.pressed k = false := by
  simp [State.firstPressed, List.find?_eq_none, mem_allKeys]

/-- The key taken is newly pressed, and no lower key is (44_keys_timers.md R266). -/
theorem State.firstPressed_some {s : State} {k : Key} (h : s.firstPressed = some k) :
    s.pressed k = true ∧ ∀ j < k, s.pressed j = false := by
  obtain ⟨hk, as, bs, hab, has⟩ := List.find?_eq_some_iff_append.1 h
  refine ⟨hk, fun j hj => ?_⟩
  have hs := allKeys_sorted
  rw [hab] at hs
  have hmem : j ∈ as ++ k :: bs := hab ▸ mem_allKeys j
  rcases List.mem_append.1 hmem with hj' | hj'
  · simpa using has j hj'
  · rcases List.mem_cons.1 hj' with rfl | hj'
    · exact absurd hj (Fin.lt_irrefl _)
    · have := (List.pairwise_cons.1 (List.pairwise_append.1 hs).2.1).1 j hj'
      exact absurd hj (Fin.not_lt.2 (Fin.le_of_lt this))

/-- The poll either samples the keys, or samples them and resolves the wait (44_keys_timers.md R266). -/
theorem State.keyWaitPoll_cases (s : State) :
    (s.firstPressed = none ∧ s.keyWaitPoll = s.setKeySnap s.key) ∨
    (∃ k, s.firstPressed = some k ∧
      s.keyWaitPoll = ((s.writeV s.waitReg (keyByte k)).setWait false).setKeySnap s.key) := by
  unfold State.keyWaitPoll
  cases h : s.firstPressed with
  | none => exact .inl ⟨rfl, rfl⟩
  | some k => exact .inr ⟨k, rfl, rfl⟩

end Sys2Proof.Machine
end

