-- ==== Sys2Proof/Laws/PerInstr.lean ====
section
/-! SUPPORT. Family OpNibble: the word of each instruction lies in its opcode family (30_encoding.md R116, R117). -/

namespace Sys2Proof.Laws.OpNibble

/-- The top nibble of 30_encoding.md R117's row. -/
def family : Instr → Nat
  | .cls => 0x0
  | .ret => 0x0
  | .jp _ => 0x1
  | .call _ => 0x2
  | .seImm _ _ => 0x3
  | .sneImm _ _ => 0x4
  | .seReg _ _ => 0x5
  | .ldImm _ _ => 0x6
  | .addImm _ _ => 0x7
  | .ldReg _ _ => 0x8
  | .orReg _ _ => 0x8
  | .andReg _ _ => 0x8
  | .xorReg _ _ => 0x8
  | .addReg _ _ => 0x8
  | .sub _ _ => 0x8
  | .shr _ _ => 0x8
  | .subn _ _ => 0x8
  | .shl _ _ => 0x8
  | .sneReg _ _ => 0x9
  | .ldI _ => 0xa
  | .jpV0 _ => 0xb
  | .rnd _ _ => 0xc
  | .drw _ _ _ => 0xd
  | .skp _ => 0xe
  | .sknp _ => 0xe
  | .ldVxDt _ => 0xf
  | .ldVxK _ => 0xf
  | .ldDtVx _ => 0xf
  | .ldStVx _ => 0xf
  | .addIVx _ => 0xf
  | .ldFVx _ => 0xf
  | .ldBVx _ => 0xf
  | .ldMemVx _ => 0xf
  | .ldVxMem _ => 0xf

/-- The op field of the encoding is the family's nibble. -/
def Statement (i : Instr) : Prop := (opField (encode i)).toNat = family i

theorem op_wordA (op : Nibble) (nnn : Addr) : (opField (wordA op nnn)).toNat = op.toNat := by
  have := nnn.isLt
  rw [opField_toNat, toNat_wordA]
  omega

theorem op_wordXB (op : Nibble) (x : Reg) (nn : Byte) : (opField (wordXB op x nn)).toNat = op.toNat := by
  have := nn.isLt
  rw [opField_toNat, toNat_wordXB]
  omega

theorem op_wordXY (op : Nibble) (x y : Reg) (n : Nibble) : (opField (wordXY op x y n)).toNat = op.toNat := by
  have := n.isLt
  rw [opField_toNat, toNat_wordXY]
  omega

theorem cls : Statement .cls := rfl
theorem ret : Statement .ret := rfl
theorem jp (nnn : Addr) : Statement (.jp nnn) := op_wordA _ _
theorem call (nnn : Addr) : Statement (.call nnn) := op_wordA _ _
theorem seImm (x : Reg) (nn : Byte) : Statement (.seImm x nn) := op_wordXB _ _ _
theorem sneImm (x : Reg) (nn : Byte) : Statement (.sneImm x nn) := op_wordXB _ _ _
theorem seReg (x y : Reg) : Statement (.seReg x y) := op_wordXY _ _ _ _
theorem ldImm (x : Reg) (nn : Byte) : Statement (.ldImm x nn) := op_wordXB _ _ _
theorem addImm (x : Reg) (nn : Byte) : Statement (.addImm x nn) := op_wordXB _ _ _
theorem ldReg (x y : Reg) : Statement (.ldReg x y) := op_wordXY _ _ _ _
theorem orReg (x y : Reg) : Statement (.orReg x y) := op_wordXY _ _ _ _
theorem andReg (x y : Reg) : Statement (.andReg x y) := op_wordXY _ _ _ _
theorem xorReg (x y : Reg) : Statement (.xorReg x y) := op_wordXY _ _ _ _
theorem addReg (x y : Reg) : Statement (.addReg x y) := op_wordXY _ _ _ _
theorem sub (x y : Reg) : Statement (.sub x y) := op_wordXY _ _ _ _
theorem shr (x y : Reg) : Statement (.shr x y) := op_wordXY _ _ _ _
theorem subn (x y : Reg) : Statement (.subn x y) := op_wordXY _ _ _ _
theorem shl (x y : Reg) : Statement (.shl x y) := op_wordXY _ _ _ _
theorem sneReg (x y : Reg) : Statement (.sneReg x y) := op_wordXY _ _ _ _
theorem ldI (nnn : Addr) : Statement (.ldI nnn) := op_wordA _ _
theorem jpV0 (nnn : Addr) : Statement (.jpV0 nnn) := op_wordA _ _
theorem rnd (x : Reg) (nn : Byte) : Statement (.rnd x nn) := op_wordXB _ _ _
theorem drw (x y : Reg) (n : Nibble) : Statement (.drw x y n) := op_wordXY _ _ _ _
theorem skp (x : Reg) : Statement (.skp x) := op_wordXB _ _ _
theorem sknp (x : Reg) : Statement (.sknp x) := op_wordXB _ _ _
theorem ldVxDt (x : Reg) : Statement (.ldVxDt x) := op_wordXB _ _ _
theorem ldVxK (x : Reg) : Statement (.ldVxK x) := op_wordXB _ _ _
theorem ldDtVx (x : Reg) : Statement (.ldDtVx x) := op_wordXB _ _ _
theorem ldStVx (x : Reg) : Statement (.ldStVx x) := op_wordXB _ _ _
theorem addIVx (x : Reg) : Statement (.addIVx x) := op_wordXB _ _ _
theorem ldFVx (x : Reg) : Statement (.ldFVx x) := op_wordXB _ _ _
theorem ldBVx (x : Reg) : Statement (.ldBVx x) := op_wordXB _ _ _
theorem ldMemVx (x : Reg) : Statement (.ldMemVx x) := op_wordXB _ _ _
theorem ldVxMem (x : Reg) : Statement (.ldVxMem x) := op_wordXB _ _ _

end Sys2Proof.Laws.OpNibble
end

