-- ==== Sys2Proof/Laws/Step.lean ====
section
/-! SUPPORT. Everything one step can do, said once. -/

namespace Sys2Proof.Machine

/-- The fetch fails exactly on the two checks, in this order (30_encoding.md R136). -/
theorem State.fetch_cases (s : State) :
    (s.pc.toNat + 1 > 0xFFF ∧ s.fetch = .error .programCounterOutOfBounds) ∨
    (s.pc.toNat + 1 ≤ 0xFFF ∧ s.pc.toNat + 2 > Config.entry + s.progLen.toNat ∧ s.fetch = .error .endOfProgram) ∨
    (s.pc.toNat + 1 ≤ 0xFFF ∧ s.pc.toNat + 2 ≤ Config.entry + s.progLen.toNat ∧ s.fetch = .ok s.fetchWord) := by
  unfold State.fetch State.fetchOutOfBounds State.fetchPastEnd
  by_cases h1 : s.pc.toNat + 1 > 0xFFF
  · exact .inl ⟨h1, by simp [h1]⟩
  · by_cases h2 : s.pc.toNat + 2 > Config.entry + s.progLen.toNat
    · exact .inr (.inl ⟨by omega, h2, by simp [h1, h2]⟩)
    · exact .inr (.inr ⟨by omega, by omega, by simp [h1, h2]⟩)

/-- The cases of a step, in the order of priority of 60_exceptions.md R310. -/
theorem step_cases (s : State) :
    (s.run ≠ .running ∧ step s = .next s) ∨
    (s.run = .running ∧ s.wait = true ∧ step s = .next s.keyWaitPoll) ∨
    (s.run = .running ∧ s.wait = false ∧ s.pc.toNat + 1 > 0xFFF ∧
      step s = .next (s.raiseHalt .programCounterOutOfBounds)) ∨
    (s.run = .running ∧ s.wait = false ∧ s.pc.toNat + 1 ≤ 0xFFF ∧
      s.pc.toNat + 2 > Config.entry + s.progLen.toNat ∧ step s = .next (s.raiseHalt .endOfProgram)) ∨
    (s.Fetches ∧ ∃ w, decode s.fetchWord = .invalidOpcode w ∧
      step s = .next (s.advancePc.raiseHalt (.invalidOpcode w))) ∨
    (s.Fetches ∧ ∃ i, decode s.fetchWord = .instr i ∧ step s = exec i s.advancePc) := by
  by_cases hr : s.run = .running
  · cases hw : s.wait with
    | true => exact .inr (.inl ⟨hr, rfl, by simp [step, hr, hw]⟩)
    | false =>
      rcases s.fetch_cases with ⟨h1, hf⟩ | ⟨h1, h2, hf⟩ | ⟨h1, h2, hf⟩
      · exact .inr (.inr (.inl ⟨hr, rfl, h1, by simp [step, hr, hw, hf]⟩))
      · exact .inr (.inr (.inr (.inl ⟨hr, rfl, h1, h2, by simp [step, hr, hw, hf]⟩)))
      · have hF : s.Fetches := ⟨hr, hw, h1, h2⟩
        cases hd : decode s.fetchWord with
        | invalidOpcode w =>
          exact .inr (.inr (.inr (.inr (.inl ⟨hF, w, rfl, by simp [step, hr, hw, hf, hd]⟩))))
        | instr i => exact .inr (.inr (.inr (.inr (.inr ⟨hF, i, rfl, by simp [step, hr, hw, hf, hd]⟩))))
  · exact .inl ⟨hr, by simp [step, hr]⟩

end Sys2Proof.Machine
end

