-- ==== Sys2Proof/Laws/Store.lean ====
section
/-! SUPPORT. What an address reads as after the two storing instructions, in terms of `State.HoldsAfterStore`. -/

namespace Sys2Proof.Machine

/-- After a run of registers is stored, an address reads as it holds. -/
theorem State.HoldsAfterStore.readMem_storeRegs {s : State} (hm : s.mem.wf = true) {n : Nat} (hn : n ≤ 16) {a : Addr}
    {b : Byte} (h : s.HoldsAfterStore n (fun k => s.readV (regOfNat k)) a b) : (s.storeRegs n).readMem a = b := by
  rcases h with ⟨k, hk, rfl, rfl⟩ | ⟨ha, rfl⟩
  · exact State.readMem_storeRegs hm n hn k hk
  · exact State.readMem_storeRegs_other hm n a ha

/-- After a list of bytes is stored from I on, an address reads as it holds. -/
theorem State.HoldsAfterStore.readMem_storeBytes {s : State} (hm : s.mem.wf = true) {byte : Nat → Byte}
    (bs : List Byte) (hlen : bs.length ≤ 0x1000) (hb : ∀ k (hk : k < bs.length), bs[k] = byte k) {a : Addr} {b : Byte}
    (h : s.HoldsAfterStore bs.length byte a b) : (s.storeBytes s.idx 0 bs).readMem a = b := by
  rcases h with ⟨k, hk, rfl, rfl⟩ | ⟨ha, rfl⟩
  · have := State.readMem_storeBytes hm s.idx 0 bs (by omega) k hk
    rw [Nat.zero_add] at this
    rw [this, hb]
  · exact State.readMem_storeBytes_other hm s.idx 0 bs a fun j hj => by
      rw [Nat.zero_add]
      exact ha j hj

end Sys2Proof.Machine
end

