-- ==== Sys2Proof/Tests/Slice0.lean ====
section
/-! SUPPORT. Tests: the checks of WellFormed refuse ill-formed terms, words of the spec decode, one step of each
instruction gives what 95_test_vectors.md says (the vector's number stands at each test), and for each statement with
hypotheses a concrete witness that meets them. -/

namespace Sys2Proof.Tests

open Sys2Proof.Machine

/-! ### Small states -/

/-- Registers of a list of (register, value). -/
def regs (vs : List (Reg × Byte)) (s : State) : State := vs.foldl (fun s p => s.writeV p.1 p.2) s

/-- Bytes of memory from an address on. -/
def bytes (a : Word) (bs : List Byte) (s : State) : State := s.storeBytes a 0 bs

/-- RUN = Running, PC at the entry point, PROG_LEN as large as it gets. -/
def running (s : State) : State := ((s.setRun .running).setPc 0x200).setProgLen 0xE00

/-- The reset state made Running. -/
def base : State := running State.reset

/-- A word stored at PC. -/
def putWord (w : Word) (s : State) : State := bytes s.pc [highByte w, lowByte w] s

/-- One step with the word at PC, and a view of the state after. -/
def after {α : Type} (w : Word) (s : State) (view : State → α) : Option α :=
  match step (putWord w s) with
  | .next t => some (view t)
  | _ => none

/-- The same hardware with other parameters (00_scope.md R13). -/
def withParams (p : Params) : State := running (State.construct p)

/-- One key held down. -/
def oneKey (k : Key) : Keys := Keys.none.set k true

/-! ### WellFormed refuses -/

theorem test_words_refused :
    [0x0000, 0x01E0, 0x00EF, 0x5121, 0x8008, 0x800D, 0x800F, 0x9AB1, 0xE09F, 0xE0A0, 0xF000, 0xF0FF].all
      (fun w => !wordValid w) = true := by decide

theorem test_words_accepted : [0x00E0, 0x00EE, 0x5120, 0x800E, 0x9120, 0xE09E, 0xE0A1, 0xF065].all wordValid = true := by
  decide

theorem test_opcode_rows : opcodeRows.length = 34 := by decide

theorem test_image_fits : imageFits (List.replicate 3 0) = true := by decide

/-- R3 of 95_test_vectors.md: 3585 bytes do not fit. -/
theorem test_image_too_large : imageFits (List.replicate 3585 0) = false := by
  simp only [imageFits, List.length_replicate]
  decide

/-! ### Words of the spec decode (30_encoding.md R115, R117) -/

theorem test_decode_flow :
    [0x00EE, 0x1ABC, 0x2ABC, 0x3A42, 0x4A42, 0x5AB0, 0x9AB0, 0xBABC].map decode =
      [.instr .ret, .instr (.jp 0xABC), .instr (.call 0xABC), .instr (.seImm 10 0x42), .instr (.sneImm 10 0x42),
        .instr (.seReg 10 11), .instr (.sneReg 10 11), .instr (.jpV0 0xABC)] := by decide

theorem test_decode_alu :
    [0x6A42, 0x7A42, 0x8120, 0x8121, 0x8122, 0x8123, 0x8124, 0x8125, 0x8126, 0x8127, 0x812E, 0xC30F].map decode =
      [.instr (.ldImm 10 0x42), .instr (.addImm 10 0x42), .instr (.ldReg 1 2), .instr (.orReg 1 2),
        .instr (.andReg 1 2), .instr (.xorReg 1 2), .instr (.addReg 1 2), .instr (.sub 1 2), .instr (.shr 1 2),
        .instr (.subn 1 2), .instr (.shl 1 2), .instr (.rnd 3 0x0F)] := by decide

theorem test_decode_index_memory :
    [0xA123, 0xF21E, 0xF229, 0xF233, 0xF255, 0xF265].map decode =
      [.instr (.ldI 0x123), .instr (.addIVx 2), .instr (.ldFVx 2), .instr (.ldBVx 2), .instr (.ldMemVx 2),
        .instr (.ldVxMem 2)] := by decide

theorem test_decode_display : [0x00E0, 0xD12F].map decode = [.instr .cls, .instr (.drw 1 2 0xF)] := by decide

theorem test_decode_keys_timers :
    [0xE59E, 0xE5A1, 0xF307, 0xF30A, 0xF315, 0xF318].map decode =
      [.instr (.skp 5), .instr (.sknp 5), .instr (.ldVxDt 3), .instr (.ldVxK 3), .instr (.ldDtVx 3),
        .instr (.ldStVx 3)] := by decide

theorem test_decode_rejects : [0x0000, 0x5121, 0x8008, 0x9AB1, 0xE09F, 0xFFFF].map decode =
    [0x0000, 0x5121, 0x8008, 0x9AB1, 0xE09F, 0xFFFF].map .invalidOpcode := by decide

theorem test_table_word : decodeTableWord 16 0xD12F = some (.drw 1 2 0xF) ∧ decodeTableWord 16 0x5121 = none := by
  decide

/-- A word placed at reset is the load of its two bytes, and is what the next step runs (log entry 8). -/
theorem test_place_at_reset : State.reset.withFetchWord 16 0x6A5C = State.reset.loadImage [0x6A, 0x5C] := by decide

theorem test_place_runs : (match step (State.reset.withFetchWord 16 0x6A5C) with
    | .next t => some (t.readV 10, t.pc) | _ => none) = some (0x5C, 0x202) := by decide

/-! ### The step cycle (95_test_vectors.md 2.1) -/

/-- S3, S5: the bounds check comes before the end check. -/
theorem test_step_out_of_bounds : after 0 (base.setPc 0xFFF) (fun t => (t.pc, t.run, t.haltReason)) =
    some (0xFFF, .halted, 4) := by decide

/-- S4: the last word of the space executes. -/
theorem test_step_last_word : after 0x00E0 (base.setPc 0xFFE) (fun t => (t.pc, t.run)) = some (0x1000, .running) := by
  decide

/-- S6, S7: the end of the image. -/
theorem test_step_end_of_program : after 0x00E0 ((base.setPc 0x20B).setProgLen 0xC)
    (fun t => (t.pc, t.run, t.haltReason)) = some (0x20B, .halted, 5) := by decide

/-- S9: no lower bound. -/
theorem test_step_below_entry : after 0x00E0 ((base.setPc 0x100).setProgLen 2) (fun t => (t.pc, t.run)) =
    some (0x102, .running) := by decide

/-- S10: an odd PC. -/
theorem test_step_odd_pc : after 0x6207 (base.setPc 0x203) (fun t => (t.readV 2, t.pc)) = some (0x07, 0x205) := by
  decide

/-- S12: 01E0 is not CLS. -/
theorem test_step_invalid : after 0x01E0 base (fun t => (t.pc, t.run, t.haltReason, t.haltWord)) =
    some (0x202, .halted, 1, 0x01E0) := by decide

/-! ### Control flow (95_test_vectors.md 2.2) -/

/-- F1. -/
theorem test_jp : after 0x1ABC base (fun t => t.pc) = some 0xABC := by decide

/-- F3. -/
theorem test_call : after 0x2300 base (fun t => (t.readStack 0, t.sp, t.pc)) = some (some 0x202, 1, 0x300) := by
  decide

/-- F6 and F7: the seventeenth call overflows at depth 16 and not at depth 32. -/
theorem test_call_depth :
    after 0x2300 (base.setSp 16) (fun t => (t.haltReason, t.sp, t.pc)) = some (2, 16, 0x202) ∧
    after 0x2300 ((withParams { Params.standard with stackDepth := .d32 }).setSp 16)
      (fun t => (t.readStack 16, t.sp, t.pc)) = some (some 0x202, 17, 0x300) := by decide

/-- F4. -/
theorem test_ret : after 0x00EE ((base.setSp 1).setStack (0x202 :: List.replicate 15 0))
    (fun t => (t.sp, t.pc, t.readStack 0)) = some (0, 0x202, some 0x202) := by decide

/-- F5. -/
theorem test_ret_underflow : after 0x00EE base (fun t => (t.sp, t.pc, t.haltReason)) = some (0, 0x202, 3) := by
  decide

/-- F8, F9. -/
theorem test_se_imm : after 0x3342 (regs [(3, 0x42)] base) (fun t => t.pc) = some 0x204 ∧
    after 0x3342 (regs [(3, 0x41)] base) (fun t => t.pc) = some 0x202 := by decide

/-- F10, F11. -/
theorem test_sne_imm : after 0x4342 (regs [(3, 0x41)] base) (fun t => t.pc) = some 0x204 ∧
    after 0x4342 (regs [(3, 0x42)] base) (fun t => t.pc) = some 0x202 := by decide

/-- F12, F13. -/
theorem test_se_reg : after 0x5120 (regs [(1, 7), (2, 7)] base) (fun t => t.pc) = some 0x204 ∧
    after 0x5120 (regs [(1, 7), (2, 8)] base) (fun t => t.pc) = some 0x202 := by decide

/-- F14, F15. -/
theorem test_sne_reg : after 0x9120 (regs [(1, 7), (2, 8)] base) (fun t => t.pc) = some 0x204 ∧
    after 0x9120 (regs [(1, 7), (2, 7)] base) (fun t => t.pc) = some 0x202 := by decide

/-- F17, F18. -/
theorem test_jp_v0 : after 0xB300 (regs [(0, 0x10)] base) (fun t => t.pc) = some 0x310 ∧
    after 0xBFFF (regs [(0, 0xFF)] base) (fun t => t.pc) = some 0x10FE := by decide

/-! ### ALU (95_test_vectors.md 2.3) -/

/-- A1. -/
theorem test_ld_imm : after 0x6A5C base (fun t => (t.readV 10, t.pc)) = some (0x5C, 0x202) := by decide

/-- A2, A3. -/
theorem test_add_imm : after 0x7101 (regs [(1, 0xFF), (15, 3)] base) (fun t => (t.readV 1, t.readV vf)) = some (0, 3) ∧
    after 0x7F90 (regs [(15, 0x80)] base) (fun t => t.readV vf) = some 0x10 := by decide

/-- A4. -/
theorem test_ld_reg : after 0x8120 (regs [(2, 0x9A)] base) (fun t => t.readV 1) = some 0x9A := by decide

/-- A5. -/
theorem test_or : after 0x8121 (regs [(1, 0xF0), (2, 0x0F), (15, 5)] base) (fun t => (t.readV 1, t.readV vf)) =
    some (0xFF, 5) := by decide

/-- A6. -/
theorem test_and : after 0x8122 (regs [(1, 0xF0), (2, 0x3C), (15, 5)] base) (fun t => (t.readV 1, t.readV vf)) =
    some (0x30, 5) := by decide

/-- A7. -/
theorem test_xor : after 0x8123 (regs [(1, 0xF0), (2, 0x3C), (15, 5)] base) (fun t => (t.readV 1, t.readV vf)) =
    some (0xCC, 5) := by decide

/-- A9, A10. -/
theorem test_add_reg : after 0x8124 (regs [(1, 0xFF), (2, 1)] base) (fun t => (t.readV 1, t.readV vf)) = some (0, 1) ∧
    after 0x8124 (regs [(1, 0xFF)] base) (fun t => (t.readV 1, t.readV vf)) = some (0xFF, 0) := by decide

/-- A12: the flag is written last. -/
theorem test_add_reg_vf : after 0x8F14 (regs [(15, 0xFF), (1, 1)] base) (fun t => t.readV vf) = some 1 := by decide

/-- A15, A14. -/
theorem test_sub : after 0x8125 (regs [(2, 0xFF)] base) (fun t => (t.readV 1, t.readV vf)) = some (1, 0) ∧
    after 0x8125 (regs [(1, 7), (2, 7)] base) (fun t => (t.readV 1, t.readV vf)) = some (0, 1) := by decide

/-- A20, A22: Vy is ignored, and with x = 15 the shifted value is lost. -/
theorem test_shr : after 0x8126 (regs [(1, 5), (2, 0x99)] base) (fun t => (t.readV 1, t.readV vf)) = some (2, 1) ∧
    after 0x8F06 (regs [(15, 3)] base) (fun t => t.readV vf) = some 1 := by decide

/-- A17, A18. -/
theorem test_subn : after 0x8127 (regs [(1, 10), (2, 5)] base) (fun t => (t.readV 1, t.readV vf)) = some (0xFB, 0) ∧
    after 0x8127 (regs [(1, 5), (2, 10)] base) (fun t => (t.readV 1, t.readV vf)) = some (5, 1) := by decide

/-- A24, A26. -/
theorem test_shl : after 0x810E (regs [(1, 0xFF)] base) (fun t => (t.readV 1, t.readV vf)) = some (0xFE, 1) ∧
    after 0x8F0E (regs [(15, 0x81)] base) (fun t => t.readV vf) = some 1 := by decide

/-- A27, A28: with the draw B7, and with a mask of 0 whatever the draw. -/
theorem test_rnd : (base.rndWith 0xB7 1 0x0F).readV 1 = 0x07 ∧
    ∀ r : Byte, (base.rndWith r 1 0x00).readV 1 = 0 := by
  refine ⟨by decide, fun r => ?_⟩
  simp [State.rndWith]

/-! ### Index and memory (95_test_vectors.md 2.4) -/

/-- M1. -/
theorem test_ld_i : after 0xA123 base (fun t => t.idx) = some 0x123 := by decide

/-- M3, M4, M5: VF by the parameter. -/
theorem test_add_i : after 0xF11E (regs [(1, 1), (15, 7)] (base.setIdx 0xFFF)) (fun t => (t.idx, t.readV vf)) =
      some (0x1000, 7) ∧
    after 0xF11E (regs [(1, 1), (15, 7)] ((withParams { Params.standard with fx1eSetsVf := true }).setIdx 0xFFF))
      (fun t => (t.idx, t.readV vf)) = some (0x1000, 1) ∧
    after 0xF11E (regs [(1, 1), (15, 7)] ((withParams { Params.standard with fx1eSetsVf := true }).setIdx 0xFFE))
      (fun t => (t.idx, t.readV vf)) = some (0xFFF, 0) := by decide

/-- M6: I wraps at 16 bits. -/
theorem test_add_i_wraps : after 0xF11E (regs [(1, 2)] (base.setIdx 0xFFFF)) (fun t => t.idx) = some 1 := by decide

/-- M8, M11. -/
theorem test_ld_f : after 0xF029 (regs [(0, 0x0A)] base) (fun t => t.idx) = some 0x82 ∧
    after 0xF029 (regs [(0, 0xFF)] base) (fun t => t.idx) = some 0x54B := by decide

/-- M16: each address wraps by itself. -/
theorem test_ld_b : after 0xF033 (regs [(0, 123)] (base.setIdx 0xFFF))
    (fun t => ([t.readMem 0xFFF, t.readMem 0, t.readMem 1], t.idx)) = some ([1, 2, 3], 0xFFF) := by decide

/-- M18. -/
theorem test_ld_mem : after 0xF255 (regs [(0, 0x11), (1, 0x22), (2, 0x33), (3, 0x44)] (base.setIdx 0x400))
    (fun t => ([t.readMem 0x400, t.readMem 0x401, t.readMem 0x402, t.readMem 0x403], t.idx)) =
      some ([0x11, 0x22, 0x33, 0], 0x400) := by decide

/-- M23. -/
theorem test_ld_vx_mem : after 0xF165 (bytes 0xFFF [0xAA, 0xBB, 0xCC] (base.setIdx 0xFFF))
    (fun t => ([t.readV 0, t.readV 1, t.readV 2], t.idx)) = some ([0xAA, 0xBB, 0], 0xFFF) := by decide

/-- The glyph of A, 0x082, as 10_state.md R56 lists it, read as data. -/
theorem test_font : after 0xF465 (base.setIdx 0x82) (fun t => [t.readV 0, t.readV 1, t.readV 2, t.readV 3, t.readV 4]) =
    some [0xF0, 0x90, 0xF0, 0x90, 0x90] := by decide

/-! ### Display (95_test_vectors.md 2.5) -/

/-- The sprite of 2.5 at 0x400, I there, and a start position in V2, V3. -/
def sprite (x y : Byte) (s : State) : State := regs [(2, x), (3, y)] ((bytes 0x400 [0xC3, 0x3C] s).setIdx 0x400)

/-- D1. -/
theorem test_cls : after 0x00E0 (base.setDisp (Display.blank.flip 3 4)) (fun t => (t.disp, t.readV vf)) =
    some (Display.blank, 0) := by decide

/-- D4: row 1 and columns 68, 69 are clipped. -/
theorem test_drw_clip : after 0xD232 (sprite 62 31 base) (fun t => (t.disp, t.readV vf)) =
    some ((Display.blank.flip 62 31).flip 63 31, 0) := by decide

/-- D7, and D5's wrapped pixels. -/
theorem test_drw_collision_wrap :
    after 0xD231 (sprite 62 31 (base.setDisp (Display.blank.flip 62 31))) (fun t => (t.disp, t.readV vf)) =
      some (Display.blank.flip 63 31, 1) ∧
    after 0xD232 (sprite 62 31 (withParams { Params.standard with drawEdge := .wrap })) (fun t =>
      [t.pixel 62 31, t.pixel 63 31, t.pixel 4 31, t.pixel 5 31, t.pixel 0 0, t.pixel 3 0, t.pixel 4 0, t.pixel 63 0]) =
      some [true, true, true, true, true, true, false, false] := by decide

/-! ### Keys and timers (95_test_vectors.md 2.6) -/

/-- K1, K2, K4. -/
theorem test_skp : after 0xE09E (regs [(0, 0x15)] (base.setKey (oneKey 5))) (fun t => t.pc) = some 0x204 ∧
    after 0xE09E (regs [(0, 5)] base) (fun t => t.pc) = some 0x202 := by decide

/-- K3. -/
theorem test_sknp : after 0xE0A1 (regs [(0, 5)] base) (fun t => t.pc) = some 0x204 ∧
    after 0xE0A1 (regs [(0, 5)] (base.setKey (oneKey 5))) (fun t => t.pc) = some 0x202 := by decide

/-- K5. -/
theorem test_ld_vx_dt : after 0xF307 (base.setDt 0x3C) (fun t => t.readV 3) = some 0x3C := by decide

/-- K6. -/
theorem test_ld_dt : after 0xF115 (regs [(1, 0x3C)] base) (fun t => t.dt) = some 0x3C := by decide

/-- K7, K8. -/
theorem test_ld_st : after 0xF218 (regs [(2, 5)] base) (fun t => (t.st, t.soundOn)) = some (5, true) ∧
    after 0xF218 (base.setSt 9) (fun t => (t.st, t.soundOn)) = some (0, false) := by decide

/-- K12. -/
theorem test_ld_vx_k : after 0xF30A (base.setKey (oneKey 4)) (fun t => (t.wait, t.waitReg, t.keySnap, t.pc)) =
    some (true, 3, oneKey 4, 0x202) := by decide

/-- A key wait pending in V3 with nothing sampled down. -/
def waiting : State := (base.setWait true).setWaitReg 3

/-- K15: the lowest new key; K13: a held key is no press. -/
theorem test_key_poll :
    after 0 (waiting.setKey ((oneKey 9).set 2 true)) (fun t => (t.readV 3, t.wait, t.pc)) = some (2, false, 0x200) ∧
    after 0 ((waiting.setKey (oneKey 4)).setKeySnap (oneKey 4)) (fun t => (t.readV 3, t.wait)) = some (0, true) := by
  decide

/-- T1, T3, T4, T5. -/
theorem test_tick : ((base.setDt 2).setSt 1).tick = (base.setDt 1).setSt 0 ∧
    (State.reset.setDt 5).tick.dt = 5 ∧
    ((State.construct { Params.standard with timersWhilePaused := true }).setDt 5).tick.dt = 4 ∧
    ((base.setRun .halted).setDt 5).tick.dt = 4 := by decide

/-! ### Loader and run-state (95_test_vectors.md 2.7) -/

/-- A session loaded with CLS. -/
def loaded : Session := { state := State.reset.loadImage [0x00, 0xE0], fresh := false }

/-- R1. -/
theorem test_load : (match (Session.new Params.standard).event (.load [0x00, 0xE0]) with
    | .next (z, .loadOk) => some (z.state.mem, z.state.progLen, z.state.pc, z.state.run) | _ => none) =
    some ([(0x201, 0xE0)], 2, 0x200, .running) := by
  rw [Session.new, ← State.reset_eq_construct]
  decide

/-- Another FONT (00_scope.md R13) is read as data where construction installs it (10_state.md R54). -/
theorem test_other_font : ([0x04F, 0x050, 0x09F, 0x0A0] : List Addr).map
    (State.construct { Params.standard with font := Vector.replicate 80 0xAA }).readMem = [0, 0xAA, 0xAA, 0] := by decide

/-- R6, R7, R9. -/
theorem test_run_state :
    base.setRunState .paused = base.setRun .paused ∧
    (base.setRun .paused).setRunState .running = base ∧
    (base.setRun .halted).setRunState .running = base.setRun .halted := ⟨rfl, rfl, rfl⟩

/-- R10, R11. -/
theorem test_refused_commands :
    loaded.event (.setRunState .halted) = .refused .haltedRequested ∧
    loaded.event (.load [0x00, 0xE0]) = .refused .loadNotFresh := ⟨rfl, rfl⟩

/-! ### Witnesses: states and operands that meet the hypotheses of each statement -/

/-- A running state with a word at 0x200 and in its image. -/
def ready (w : Word) : State := putWord w base

theorem ready_inv (w : Word) : (ready w).Inv := by
  have h : (ready w).mem.wf = true := State.storeBytes_wf (by decide) _ _ _
  constructor
  · exact h
  all_goals simp [ready, putWord, bytes, base, running, State.reset, Params.standard, Params.depth, StackDepth.toNat,
    Config.maxProgram, Config.memSize, Config.entry]

theorem ready_fetches (w : Word) : (ready w).Fetches := by
  constructor <;> simp [ready, putWord, bytes, base, running, State.reset, Config.entry]

theorem session_inv {s : State} (h : s.Inv) : Session.Inv { state := s, fresh := false } := ⟨h, by simp⟩

theorem witness_EncodeOfDecodeIsTheWord : decode 0x8126 = .instr (.shr 1 2) := by decide

theorem witness_InvalidWordsAreExactlyTheListedPatterns :
    [0x0000, 0x00DF, 0x0FFF, 0x5001, 0x500F, 0x8008, 0x800D, 0x800F, 0x9001, 0xE09D, 0xE0A2, 0xF066, 0xFFFF].all
      (fun w => decode w == .invalidOpcode w) = true ∧
    [0x00E0, 0x00EE, 0x1000, 0x5FF0, 0x8007, 0x800E, 0x9FF0, 0xE09E, 0xE0A1, 0xF007, 0xFF65].all wordValid = true := by
  decide

theorem witness_StepRunsTheDecodedInstruction : (ready 0x6A5C).Fetches ∧
    (0x6A5C : Word).toNat = 256 * ((ready 0x6A5C).mem.read 0x200).toNat + ((ready 0x6A5C).mem.read 0x201).toNat ∧
    decode 0x6A5C = .instr (.ldImm 10 0x5C) := ⟨ready_fetches _, by decide, by decide⟩

theorem witness_StepIsANoOpWhenNotRunning : State.reset.run ≠ .running := by decide

theorem witness_FetchChecksHaltTheStep :
    (base.run = .running ∧ base.wait = false ∧ (base.setPc 0xFFF).pc.toNat + 1 > 0xFFF) ∧
    ((base.setProgLen 1).pc.toNat + 1 ≤ 0xFFF ∧
      (base.setProgLen 1).pc.toNat + 2 > 0x200 + (base.setProgLen 1).progLen.toNat) ∧
    ((base.setPc 0xFFE).pc.toNat + 1 ≤ 0xFFF ∧
      (base.setPc 0xFFE).pc.toNat + 2 ≤ 0x200 + (base.setPc 0xFFE).progLen.toNat) := by decide

theorem witness_InvalidWordHaltsAfterTheAdvance :
    (ready 0x5121).Fetches ∧ wordValid (ready 0x5121).fetchWord = false := ⟨ready_fetches _, by decide⟩

theorem witness_RuntimeErrorsArePrecise : (ready 0x00EE).run = .running ∧
    step (ready 0x00EE) = .next ((ready 0x00EE).advancePc.raiseHalt .stackUnderflow) ∧
    ((ready 0x00EE).advancePc.raiseHalt .stackUnderflow).run = .halted := ⟨by decide, rfl, by decide⟩

theorem witness_HaltCausesAndRecords :
    ((ready 0x00EE).Inv ∧ (ready 0x00EE).run = .running ∧ (ready 0x00EE).wait = false) ∧
    State.reset.run ≠ .running ∧ (waiting.run = .running ∧ waiting.wait = true) ∧
    (base.setPc 0xFFF).pc.toNat + 1 > 0xFFF ∧
    ((base.setProgLen 1).pc.toNat + 1 ≤ 0xFFF ∧
      (base.setProgLen 1).pc.toNat + 2 > 0x200 + (base.setProgLen 1).progLen.toNat) ∧
    ((ready 0xFFFF).Fetches ∧ wordValid (ready 0xFFFF).fetchWord = false) ∧
    (((ready 0x2300).setSp 16).fetchWord.toNat / 0x1000 = 2 ∧
      ((ready 0x2300).setSp 16).sp.toNat = ((ready 0x2300).setSp 16).cfg.depth) ∧
    ((ready 0x00EE).fetchWord = 0x00EE ∧ (ready 0x00EE).sp = 0) ∧
    (wordValid (ready 0x2300).fetchWord = true ∧ (ready 0x2300).sp.toNat ≠ (ready 0x2300).cfg.depth ∧
      (ready 0x2300).fetchWord ≠ 0x00EE) :=
  ⟨⟨ready_inv _, by decide, by decide⟩, by decide, by decide, by decide, by decide, ⟨ready_fetches _, by decide⟩, by decide, by decide,
    by decide⟩

theorem witness_ExecutedAndWaitingMeanWhatTheySay :
    (∃ t, step (ready 0x6A5C) = .next t ∧ stepStatus (ready 0x6A5C) t = .executed) ∧
    (∃ t, step (ready 0xF30A) = .next t ∧ stepStatus (ready 0xF30A) t = .waiting) ∧
    (∃ t, step waiting = .next t ∧ stepStatus waiting t = .waiting) ∧
    (∃ t, step (waiting.setKey (oneKey 7)) = .next t ∧ stepStatus (waiting.setKey (oneKey 7)) t = .executed) :=
  ⟨⟨_, rfl, by decide⟩, ⟨_, rfl, by decide⟩, ⟨_, rfl, by decide⟩, ⟨_, rfl, by decide⟩⟩

theorem witness_EveryStepAnswersANextState : (ready 0x00EE).Inv := ready_inv _

/-- A halted state that the invariant holds in. -/
def stopped : State := ((base.setRun .halted).setHaltReason 5).setDt 3

theorem stopped_inv : stopped.Inv := by
  constructor
  · decide
  all_goals simp [stopped, base, running, State.reset, Params.standard, Params.depth, StackDepth.toNat,
    Config.maxProgram, Config.memSize, Config.entry]

theorem witness_HaltedIsTerminalUnderEveryEvent : ∃ z', Session.Inv { state := stopped, fresh := false } ∧
    stopped.run = .halted ∧ EventRun { state := stopped, fresh := false } [.tick, .step] z' :=
  ⟨_, session_inv stopped_inv, by decide, .cons rfl (.cons rfl (.nil _))⟩

theorem witness_CallPushesOrOverflows :
    base.stack.length = base.cfg.depth ∧ (base.setSp 15).sp.toNat < (base.setSp 15).cfg.depth ∧
    (base.setSp 16).stack.length = (base.setSp 16).cfg.depth ∧ (base.setSp 16).sp.toNat = (base.setSp 16).cfg.depth := by
  decide

theorem witness_ReturnPopsOrUnderflows :
    ((base.setSp 16).sp ≠ 0 ∧ (base.setSp 16).sp.toNat ≤ (base.setSp 16).stack.length) ∧ base.sp = 0 := by decide

/-- CALL 0x202 at 0x200, RET at 0x202. -/
def callReturn : State := bytes 0x200 [0x22, 0x02, 0x00, 0xEE] base

theorem callReturn_inv : callReturn.Inv := by
  constructor
  · decide
  all_goals simp [callReturn, bytes, base, running, State.reset, Params.standard, Params.depth, StackDepth.toNat,
    Config.maxProgram, Config.memSize, Config.entry]

theorem witness_ReturnComesBackToAfterTheCall : ∃ t r : State, callReturn.Inv ∧ callReturn.Fetches ∧
    decode callReturn.fetchWord = .instr (.call 0x202) ∧ callReturn.sp.toNat < callReturn.cfg.depth ∧
    step callReturn = .next t ∧ StepsAbove t.sp.toNat t t ∧ t.sp = t.sp ∧ t.Fetches ∧
    decode t.fetchWord = .instr .ret ∧ step t = .next r :=
  ⟨_, _, callReturn_inv, by constructor <;> decide, by decide, by decide, rfl, .refl _ (Nat.le_refl _), rfl,
    by constructor <;> decide, by decide, rfl⟩

theorem witness_DecimalDigitsAreStored : base.mem.wf = true := by decide

theorem witness_RegistersAreStored : (base.setIdx 0xFFF).mem.wf = true := by decide

theorem witness_SavedRegistersAreRestored : ∃ t u : State, base.mem.wf = true ∧ exec (.ldMemVx 15) base = .next t ∧
    u.mem = t.mem ∧ u.idx = base.idx := ⟨_, _, by decide, rfl, rfl, rfl⟩

/-- Memory 0x200, 0x201 is 0x61, 0x7F, PC is there, V0 = 123 and V1 = 0xEE. -/
def selfModifying : State := regs [(0, 123), (1, 0xEE)] (bytes 0x200 [0x61, 0x7F] base)

/-- Both bytes from one store of registers; one byte stored beside an old one, above it and below it; two digits. -/
theorem witness_StoredBytesAreFetchedNext : selfModifying.mem.wf = true ∧ selfModifying.Fetches ∧
    (∃ t, exec (.ldMemVx 1) (selfModifying.setIdx 0x200) = .next t ∧ t.Fetches ∧
      (selfModifying.setIdx 0x200).HoldsAfterStore 2 (fun k => selfModifying.readV (regOfNat k)) 0x200 123 ∧
      (selfModifying.setIdx 0x200).HoldsAfterStore 2 (fun k => selfModifying.readV (regOfNat k)) 0x201 0xEE) ∧
    (∃ t, exec (.ldMemVx 0) (selfModifying.setIdx 0x201) = .next t ∧ t.Fetches ∧
      (selfModifying.setIdx 0x201).HoldsAfterStore 1 (fun k => selfModifying.readV (regOfNat k)) 0x200 0x61 ∧
      (selfModifying.setIdx 0x201).HoldsAfterStore 1 (fun k => selfModifying.readV (regOfNat k)) 0x201 123) ∧
    (∃ t, exec (.ldBVx 0) (selfModifying.setIdx 0x1FE) = .next t ∧ t.Fetches ∧
      (selfModifying.setIdx 0x1FE).HoldsAfterStore 3 (fun k => BitVec.ofNat 8 (123 / 10 ^ (2 - k) % 10)) 0x200 3 ∧
      (selfModifying.setIdx 0x1FE).HoldsAfterStore 3 (fun k => BitVec.ofNat 8 (123 / 10 ^ (2 - k) % 10)) 0x201 0x7F) :=
  ⟨by decide, by constructor <;> decide,
    ⟨_, rfl, by constructor <;> decide, .inl ⟨0, by decide⟩, .inl ⟨1, by decide⟩⟩,
    ⟨_, rfl, by constructor <;> decide, .inr (by decide), .inl ⟨0, by decide⟩⟩,
    ⟨_, rfl, by constructor <;> decide, .inl ⟨2, by decide⟩, .inr (by decide)⟩⟩

theorem witness_CanonicalMemoriesThatReadAlikeAreEqual : ∃ m m' : Memory, m.wf = true ∧ m'.wf = true ∧
    ∀ a : Addr, m.read a.toNat = m'.read a.toNat :=
  ⟨[(0x201, 0xE0)], Memory.write [(0x201, 0xE0), (0x300, 7)] 0x300 0, by decide, by decide, fun _ => rfl⟩

/-- Every pixel on. -/
def lit : State := base.setDisp (Vector.replicate 32 (Vector.replicate 64 true))

theorem witness_DrawingTwiceRestoresTheDisplay : ∃ t t' : State, exec (.drw 2 3 1) (sprite 62 31 base) = .next t ∧
    t'.disp = t.disp ∧ t'.mem = t.mem ∧ t'.idx = t.idx ∧ t'.cfg = t.cfg ∧
    t'.readV 2 = (sprite 62 31 base).readV 2 ∧ t'.readV 3 = (sprite 62 31 base).readV 3 :=
  ⟨_, _, rfl, rfl, rfl, rfl, rfl, by decide, by decide⟩

/-- The three clauses: a covered pixel off before, every covered pixel on before, no covered pixel. -/
theorem witness_DrawingTwiceClauses :
    (∃ px py, (sprite 62 31 base).drawCovers 2 3 1 px py ∧ (sprite 62 31 base).pixel px py = false) ∧
    ((∀ px py, (sprite 62 31 lit).drawCovers 2 3 1 px py → (sprite 62 31 lit).pixel px py = true) ∧
      ∃ px py, (sprite 62 31 lit).drawCovers 2 3 1 px py) ∧
    (∀ px py, ¬ base.drawCovers 2 3 0 px py) := by
  refine ⟨⟨63, 31, ⟨0, by decide, 1, by decide, by decide, by decide, by decide⟩, by decide⟩,
    ⟨fun px py _ => ?_, 63, 31, 0, by decide, 1, by decide, by decide, by decide, by decide⟩, ?_⟩
  · change (Vector.replicate 32 (Vector.replicate 64 true))[py][px] = true
    simp
  · rintro px py ⟨r, hr, _⟩
    exact absurd hr (Nat.not_lt_zero r)

theorem witness_SecondDrawAlwaysReportsACollision : ∃ t u : State, (2 : Reg) ≠ 15 ∧ (3 : Reg) ≠ 15 ∧
    exec (.drw 2 3 1) (sprite 62 31 base) = .next t ∧ exec (.drw 2 3 1) t = .next u ∧
    ∃ px py, (sprite 62 31 base).drawCovers 2 3 1 px py :=
  ⟨_, _, by decide, by decide, rfl, rfl, 62, 31, 0, by decide, 0, by decide, by decide, by decide, by decide⟩

theorem witness_KeySkipsTestTheLevel : ∃ k : Key, k.val = ((regs [(0, 0xFF)] base).readV 0).toNat % 16 :=
  ⟨15, by decide⟩

theorem witness_KeyWaitPollTakesTheLowestNewKey :
    (waiting.run = .running ∧ waiting.wait = true ∧
      ∀ k : Key, ¬ (waiting.key[k] = true ∧ waiting.keySnap[k] = false)) ∧
    ((waiting.setKey (oneKey 15)).key[(15 : Key)] = true ∧ (waiting.setKey (oneKey 15)).keySnap[(15 : Key)] = false ∧
      ∀ j < (15 : Key), ¬ ((waiting.setKey (oneKey 15)).key[j] = true ∧
        (waiting.setKey (oneKey 15)).keySnap[j] = false)) := by decide

theorem witness_PauseDoesNotDisturbTheStream : ∃ z', loaded.state.run = .running ∧
    (∀ e ∈ [Event.step, .tick], e = .step ∨ e = .tick ∨ ∃ keys, e = .writeKeys keys) ∧
    EventRun loaded (.setRunState .paused :: ([Event.step, .tick] ++ [.setRunState .running])) z' ∧
    loaded.state.cfg.timersWhilePaused = false :=
  ⟨_, by decide, by simp, .cons rfl (.cons rfl (.cons rfl (.cons rfl (.nil _)))), by decide⟩

theorem witness_TickCountsBothTimersDown :
    base.run ≠ .paused ∧ (State.reset.run = .paused ∧ State.reset.cfg.timersWhilePaused = false) := by decide

theorem witness_TimerOfValueDLastsDTicks : stopped.run ≠ .paused := by decide

theorem witness_LoadPlacesTheProgram : ([0x00, 0xE0, 0x61] : List Byte).length ≤ 3584 := by decide

theorem witness_LoadFailsOrIsRefused :
    ((Session.new Params.standard).fresh = true ∧ (List.replicate 3585 (0 : Byte)).length > 3584) ∧
    loaded.fresh = false := ⟨⟨rfl, by rw [List.length_replicate]; decide⟩, rfl⟩

theorem witness_RunStateChangesOnlyAsTheTableSays : ∃ z' r, Session.Inv { state := ready 0xFFFF, fresh := false } ∧
    Session.event { state := ready 0xFFFF, fresh := false } .step = .next (z', r) ∧ z'.state.run = .halted :=
  ⟨_, _, session_inv (ready_inv _), rfl, by decide⟩

theorem witness_SetRunStateIsPauseAndResumeOnly : RunState.paused ≠ .halted := by decide

theorem witness_EveryStepKeepsTheInvariant : ∃ t, (ready 0x2300).Inv ∧ step (ready 0x2300) = .next t :=
  ⟨_, ready_inv _, rfl⟩

theorem witness_EveryRunOfEventsKeepsTheInvariant : ∃ z', Session.Inv { state := ready 0xF055, fresh := false } ∧
    EventRun { state := ready 0xF055, fresh := false } [.step, .tick, .writeKeys (oneKey 3)] z' :=
  ⟨_, session_inv (ready_inv _), .cons rfl (.cons rfl (.cons rfl (.nil _)))⟩

theorem witness_EveryInstructionStaysWithinItsFootprint : ∃ t : State, base.run = .running ∧ base.mem.wf = true ∧
    exec (.ldMemVx 3) base = .next t ∧ t.run = .running := ⟨_, by decide, by decide, rfl, by decide⟩

theorem witness_StepNeverWritesKeysLengthOrParameters : ∃ t, step (ready 0xF30A) = .next t := ⟨_, rfl⟩

theorem witness_OnlyClearAndDrawWriteTheDisplay : ∃ z' r,
    Session.event { state := putWord 0xD231 (sprite 62 31 base), fresh := false } .step = .next (z', r) ∧
    z'.state.disp ≠ (putWord 0xD231 (sprite 62 31 base)).disp := ⟨_, _, rfl, by decide⟩

theorem witness_OnlyCallAndReturnMoveTheStackPointer : ∃ t, (ready 0x2300).Inv ∧ step (ready 0x2300) = .next t ∧
    t.sp ≠ (ready 0x2300).sp := ⟨_, ready_inv _, rfl, by decide⟩

theorem witness_UpperIndexBitsAreInvisible : base.cfg.fx1eSetsVf = false ∧ SameAddresses base (base.setIdx 0x3000) := by
  refine ⟨by decide, rfl, by decide⟩

theorem witness_PlacedWordIsRunNext : State.reset.mem.wf = true ∧ decode 0xD12F = .instr (.drw 1 2 0xF) := by decide

/-! Statements whose only hypotheses stand inside a clause: each clause has a case, at the end of its range. -/

theorem witness_AddRegistersWithCarry : (14 : Reg) ≠ 15 := by decide

theorem witness_SubtractionsWithNoBorrow : (0 : Reg) ≠ 15 := by decide

theorem witness_ShiftsByOneIgnoringVy : (14 : Reg) ≠ 15 := by decide

theorem witness_RandomByteIsMasked : 7 < 8 ∧ (0x7F : Byte).getLsbD 7 = false := by decide

theorem witness_RegistersAreLoaded : (15 : Reg) ≤ 15 := by decide

theorem witness_DrawInvertsExactlyTheCoveredPixels :
    (∃ px py, (sprite 62 31 base).drawCovers 2 3 1 px py) ∧ (∃ px py, ¬ base.drawCovers 2 3 0 px py) ∧
    ¬ (∃ px py, base.drawCovers 2 3 0 px py ∧ base.pixel px py = true) := by
  refine ⟨⟨63, 31, 0, by decide, 1, by decide, by decide, by decide, by decide⟩, ⟨0, 0, ?_⟩, ?_⟩
  · rintro ⟨r, hr, _⟩
    exact absurd hr (Nat.not_lt_zero r)
  · rintro ⟨_, _, ⟨r, hr, _⟩, _⟩
    exact absurd hr (Nat.not_lt_zero r)

theorem witness_DrawInvertsAPixelThatWasOn :
    (sprite 62 31 (base.setDisp (Display.blank.flip 63 31))).drawCovers 2 3 1 63 31 ∧
    (sprite 62 31 (base.setDisp (Display.blank.flip 63 31))).pixel 63 31 = true :=
  ⟨⟨0, by decide, 1, by decide, by decide, by decide, by decide⟩, by decide⟩

theorem witness_KeyWaitBegins : base.run = .running := by decide

theorem witness_ConstructionLeavesTheResetValues : 79 < 80 ∧ (0x0A0 : Addr).toNat > 0x09F ∧
    (0x04F : Addr).toNat < 0x050 := by decide

theorem witness_SecondFontInstallationChangesNothing : ([0x00, 0xE0] : List Byte).length ≤ 3584 := by decide

end Sys2Proof.Tests
end

/-! ### Frame rules: `Within`, one rule an update, composed by `Within.trans` -/

namespace Sys2Proof.Machine

theorem Within.refl (f : Footprint) (s : State) : Within f s s := by
  constructor <;> intros <;> rfl

theorem Within.trans {f : Footprint} {s t u : State} (h : Within f s t) (h' : Within f t u) : Within f s u where
  v r hr := (h'.v r hr).trans (h.v r hr)
  mem a ha := (h'.mem a ha).trans (h.mem a ha)
  stack k hk := (h'.stack k hk).trans (h.stack k hk)
  idx hf := (h'.idx hf).trans (h.idx hf)
  sp hf := (h'.sp hf).trans (h.sp hf)
  dt hf := (h'.dt hf).trans (h.dt hf)
  st hf := (h'.st hf).trans (h.st hf)
  disp hf := (h'.disp hf).trans (h.disp hf)
  wait hf := (h'.wait hf).trans (h.wait hf)
  waitReg hf := (h'.waitReg hf).trans (h.waitReg hf)
  keySnap hf := (h'.keySnap hf).trans (h.keySnap hf)
  draws hf := (h'.draws hf).trans (h.draws hf)
  cfg := h'.cfg.trans h.cfg
  key := h'.key.trans h.key
  run := h'.run.trans h.run
  haltReason := h'.haltReason.trans h.haltReason
  haltWord := h'.haltWord.trans h.haltWord
  progLen := h'.progLen.trans h.progLen

section
variable {f : Footprint} {s : State}

theorem Within.setPc (pc : Word) : Within f s (s.setPc pc) := { Within.refl f s with }

theorem Within.skipIf (c : Bool) : Within f s (s.skipIf c) := by
  rw [State.skipIf_eq]
  exact .setPc _

theorem Within.setV {v : Vector Byte 16} (h : ∀ r, f.v r = false → (s.setV v).readV r = s.readV r) :
    Within f s (s.setV v) := { Within.refl f s with v := h }

theorem Within.writeV {x : Reg} (hx : f.v x = true) (b : Byte) : Within f s (s.writeV x b) :=
  .setV fun r hr => State.readV_writeV_ne s b fun hrx => by simp [hrx, hx] at hr

theorem Within.writeResultFlag {x : Reg} (hx : f.v x = true) (hf : f.v vf = true) (a b : Byte) :
    Within f s (s.writeResultFlag x a b) := (Within.writeV hx a).trans (.writeV hf b)

theorem Within.setMem {m : Memory} (h : ∀ a, f.mem a = false → (s.setMem m).readMem a = s.readMem a) :
    Within f s (s.setMem m) := { Within.refl f s with mem := h }

theorem Within.setStack {st : List Word} (h : ∀ k, f.stack k = false → (s.setStack st).readStack k = s.readStack k) :
    Within f s (s.setStack st) := { Within.refl f s with stack := h }

theorem Within.setIdx (hf : f.idx = true) (i : Word) : Within f s (s.setIdx i) :=
  { Within.refl f s with idx := fun h => by simp [hf] at h }

theorem Within.setSp (hf : f.sp = true) (sp : Byte) : Within f s (s.setSp sp) :=
  { Within.refl f s with sp := fun h => by simp [hf] at h }

theorem Within.setDt (hf : f.dt = true) (d : Byte) : Within f s (s.setDt d) :=
  { Within.refl f s with dt := fun h => by simp [hf] at h }

theorem Within.setSt (hf : f.st = true) (d : Byte) : Within f s (s.setSt d) :=
  { Within.refl f s with st := fun h => by simp [hf] at h }

theorem Within.setDisp (hf : f.disp = true) (d : Display) : Within f s (s.setDisp d) :=
  { Within.refl f s with disp := fun h => by simp [hf] at h }

theorem Within.setDraws (hf : f.draws = true) (n : Nat) : Within f s (s.setDraws n) :=
  { Within.refl f s with draws := fun h => by simp [hf] at h }

/-- The three fields of a key wait are one item of the footprint. -/
theorem Within.beginKeyWait (hf : f.keyWait = true) (b : Bool) (x : Reg) (keys : Keys) :
    Within f s (((s.setWait b).setWaitReg x).setKeySnap keys) :=
  { Within.refl f s with
    wait := fun h => by simp [hf] at h
    waitReg := fun h => by simp [hf] at h
    keySnap := fun h => by simp [hf] at h }

end

/-! ### What `exec` writes -/

theorem inRun_eq_false {i : Word} {n : Nat} {a : Addr} : inRun i n a = false ↔ ∀ k < n, a ≠ dataAddr i k := by
  simp [inRun]

/-- The footprint of an instruction, with all of memory in it where memory is not canonical: a store's frame is stated
for canonical memories, and the rest of the frame holds on every state. -/
def frame (s : State) (i : Instr) : Footprint :=
  { footprint s i with mem := fun a => (footprint s i).mem a || !s.mem.wf }

theorem frame_of_wf {s : State} (h : s.mem.wf = true) (i : Instr) : frame s i = footprint s i := by
  simp [frame, h]

/-- Every answer of `exec` is a stack error's halt or stays within the frame. -/
theorem exec_halts_or_within {i : Instr} {s t : State} (h : exec i s = .next t) :
    (∃ e, (e = .stackOverflow ∨ e = .stackUnderflow) ∧ t = s.raiseHalt e) ∨ Within (frame s i) s t := by
  have reg (x : Reg) : onlyReg x x = true := beq_self_eq_true x
  have dest (x : Reg) : regAndFlag x x = true := by simp [regAndFlag]
  have flag (x : Reg) : regAndFlag x vf = true := by simp [regAndFlag]
  cases i with
  | ret =>
    obtain ⟨-, hr⟩ | ⟨-, r, -, hr⟩ | ⟨-, -, hr⟩ := execRet_cases s <;> cases hr.symm.trans h
    · exact .inl ⟨_, .inr rfl, rfl⟩
    · exact .inr ((Within.setSp rfl _).trans (.setPc _))
  | call nnn =>
    obtain ⟨-, hc⟩ | ⟨-, -, hc⟩ | ⟨-, -, hc⟩ := execCall_cases nnn s <;> cases hc.symm.trans h
    · exact .inl ⟨_, .inl rfl, rfl⟩
    · refine .inr (((Within.setStack fun k hk => ?_).trans (.setSp rfl _)).trans (.setPc _))
      have hk : k ≠ s.sp.toNat := by simpa [frame, footprint] using hk
      simp [State.readStack, hk.symm]
  | cls => cases h; exact .inr (.setDisp rfl _)
  | jp | jpV0 => cases h; exact .inr (.setPc _)
  | seImm | sneImm | seReg | sneReg | skp | sknp => cases h; exact .inr (.skipIf _)
  | ldImm x | addImm x | ldReg x | orReg x | andReg x | xorReg x | ldVxDt x =>
    cases h; exact .inr (.writeV (reg x) _)
  | addReg x | sub x | shr x | subn x | shl x => cases h; exact .inr (.writeResultFlag (dest x) (flag x) _ _)
  | ldI | ldFVx => cases h; exact .inr (.setIdx rfl _)
  | rnd x => cases h; exact .inr ((Within.writeV (reg x) _).trans (.setDraws rfl _))
  | drw => cases h; exact .inr ((Within.setDisp rfl _).trans (.writeV (reg vf) _))
  | ldVxK => cases h; exact .inr (.beginKeyWait rfl _ _ _)
  | ldDtVx => cases h; exact .inr (.setDt rfl _)
  | ldStVx => cases h; exact .inr (.setSt rfl _)
  | addIVx x =>
    cases h
    refine .inr ((Within.setIdx rfl (indexSum s.idx (s.readV x))).trans ?_)
    split
    · next hvf => exact .writeV (by simp [frame, footprint, hvf]) _
    · exact .refl _ _
  | ldBVx x =>
    cases h
    refine .inr (State.storeBytes_eq .. ▸ .setMem fun a ha => ?_)
    have ⟨ha, hm⟩ : inRun s.idx 3 a = false ∧ s.mem.wf = true := by simpa [frame, footprint] using ha
    exact State.readMem_storeBytes_other hm _ _ _ _ (by simpa using inRun_eq_false.1 ha)
  | ldMemVx x =>
    cases h
    refine .inr (State.storeRegs_eq .. ▸ .setMem fun a ha => ?_)
    have ⟨ha, hm⟩ : inRun s.idx (x.val + 1) a = false ∧ s.mem.wf = true := by simpa [frame, footprint] using ha
    exact State.readMem_storeRegs_other hm _ _ (inRun_eq_false.1 ha)
  | ldVxMem x =>
    cases h
    refine .inr (State.loadRegs_eq .. ▸ .setV fun r hr => ?_)
    have hr : x.val < r.val := Fin.not_le.1 (of_decide_eq_false hr)
    exact (State.readV_loadRegs s _ (by omega) r).trans (if_neg (by omega))

/-- Settles O54: an answer that is still Running is no halt, so it stays within the frame, which is the footprint
where memory is canonical. -/
theorem everyInstructionStaysWithinItsFootprint : Obligations.EveryInstructionStaysWithinItsFootprint := by
  intro i s t _ hm h hr
  obtain ⟨e, -, rfl⟩ | hw := exec_halts_or_within h
  · cases hr
  · exact frame_of_wf hm i ▸ hw

end Sys2Proof.Machine

namespace Sys2Proof

/-! ### Decoding, as far as the state's rules need it -/

theorem decodeWhole_eq_instr {w : Word} {i : Instr} (h : decodeWhole w = .instr i) :
    (w = 0x00E0 ∧ i = .cls) ∨ (w = 0x00EE ∧ i = .ret) := by
  unfold decodeWhole at h
  split at h
  · next hw => exact .inl ⟨hw, by cases h; rfl⟩
  · split at h
    · next hw => exact .inr ⟨hw, by cases h; rfl⟩
    · cases h

theorem decodeNibbleZero_eq_instr {w : Word} {i j : Instr} (h : decodeNibbleZero w j = .instr i) : i = j := by
  unfold decodeNibbleZero at h
  split at h <;> cases h
  rfl

theorem family_of_decodeAlu {w : Word} {i : Instr} (h : decodeAlu w = .instr i) : Laws.OpNibble.family i = 0x8 := by
  unfold decodeAlu at h
  split at h <;> cases h <;> rfl

theorem family_of_decodeKeys {w : Word} {i : Instr} (h : decodeKeys w = .instr i) : Laws.OpNibble.family i = 0xE := by
  unfold decodeKeys at h
  split at h <;> cases h <;> rfl

theorem family_of_decodeMisc {w : Word} {i : Instr} (h : decodeMisc w = .instr i) : Laws.OpNibble.family i = 0xF := by
  unfold decodeMisc at h
  split at h <;> cases h <;> rfl

/-- A decoded word lies in its instruction's opcode family (30_encoding.md R117). -/
theorem opField_of_decode {w : Word} {i : Instr} (h : decode w = .instr i) :
    (opField w).toNat = Laws.OpNibble.family i := by
  have hlt : (opField w).toNat < 16 := (opField w).isLt
  unfold decode at h
  split at h
  case h_1 hop => obtain ⟨-, rfl⟩ | ⟨-, rfl⟩ := decodeWhole_eq_instr h <;> exact hop
  case h_6 hop | h_10 hop => rw [decodeNibbleZero_eq_instr h]; exact hop
  case h_9 hop => rw [family_of_decodeAlu h]; exact hop
  case h_15 hop => rw [family_of_decodeKeys h]; exact hop
  case h_16 => rw [family_of_decodeMisc h]; grind
  all_goals cases h; assumption

theorem decode_eq_call {w : Word} {nnn : Addr} (h : decode w = .instr (.call nnn)) : w.toNat / 0x1000 = 2 :=
  (opField_toNat w).symm.trans (opField_of_decode h)

theorem decode_eq_ret {w : Word} (h : decode w = .instr .ret) : w = 0x00EE := by
  have hop : (opField w).toNat = 0 := opField_of_decode h
  have hw : decodeWhole w = .instr .ret := by simpa only [decode, hop] using h
  obtain ⟨-, hi⟩ | ⟨hw, -⟩ := decodeWhole_eq_instr hw
  · cases hi
  · exact hw

/-- A rejected word is rejected by its own name (30_encoding.md R138). -/
theorem decode_invalidOpcode_word {w w' : Word} (h : decode w = .invalidOpcode w') : w' = w := by
  unfold decode decodeWhole decodeNibbleZero decodeAlu decodeKeys decodeMisc at h
  repeat' split at h
  all_goals cases h <;> rfl

/-- A field that the row's mask covers is the pattern's. -/
theorem OpcodeRow.extract_of_matches {r : OpcodeRow} {w : Word} (h : r.matches w = true) (lo n : Nat)
    (hm : r.mask.extractLsb' lo n = BitVec.allOnes n) : w.extractLsb' lo n = r.pattern.extractLsb' lo n := by
  have hp : (w &&& r.mask).extractLsb' lo n = r.pattern.extractLsb' lo n := by rw [eq_of_beq h]
  rwa [BitVec.extractLsb'_and, hm, BitVec.and_allOnes] at hp

/-- A word of an opcode-table row decodes to an instruction (30_encoding.md R117): the row's mask covers every field
the decoder selects by, so the decoder takes the branch of the row's pattern. -/
theorem decode_of_matches {r : OpcodeRow} (hr : r ∈ opcodeRows) {w : Word} (h : r.matches w = true) :
    ∃ i, decode w = .instr i := by
  have hop : opField r.mask = .allOnes 4 → opField w = opField r.pattern := r.extract_of_matches h 12 4
  have hn : nField r.mask = .allOnes 4 → nField w = nField r.pattern := r.extract_of_matches h 0 4
  have hnn : nnField r.mask = .allOnes 8 → nnField w = nnField r.pattern := r.extract_of_matches h 0 8
  have hw : r.mask = .allOnes 16 → w = r.pattern := fun hm => by simpa [hm] using r.extract_of_matches h 0 16
  simp only [opcodeRows, List.cons_append, List.nil_append, List.mem_cons, List.not_mem_nil] at hr
  repeat' (rcases hr with rfl | hr)
  · rw [hw rfl]; exact ⟨_, rfl⟩
  · rw [hw rfl]; exact ⟨_, rfl⟩
  all_goals
    simp (disch := decide) only [decode, decodeNibbleZero, decodeAlu, decodeKeys, decodeMisc, hop, hn, hnn]
    exact ⟨_, rfl⟩

theorem wordValid_of_decode_invalidOpcode {w w' : Word} (h : decode w = .invalidOpcode w') : wordValid w' = false := by
  obtain rfl := decode_invalidOpcode_word h
  refine Bool.eq_false_iff.2 fun hv => ?_
  obtain ⟨r, hr, hm⟩ := List.any_eq_true.1 hv
  obtain ⟨i, hi⟩ := decode_of_matches hr hm
  cases h.symm.trans hi

end Sys2Proof

namespace Sys2Proof.Machine

/-! ### The invariant, one rule an update -/

section
variable {s : State} (h : s.Inv)
include h

theorem State.Inv.setV (v : Vector Byte 16) : (s.setV v).Inv := { h with }

theorem State.Inv.setMem {m : Memory} (hm : m.wf = true) : (s.setMem m).Inv := { h with memCanonical := hm }

theorem State.Inv.setIdx (i : Word) : (s.setIdx i).Inv := { h with }

theorem State.Inv.setPc {pc : Word} (hpc : pc.toNat ≤ 0x10FE) : (s.setPc pc).Inv := { h with pcBound := hpc }

theorem State.Inv.setSp {sp : Byte} (hsp : sp.toNat ≤ s.cfg.depth) : (s.setSp sp).Inv := { h with spBound := hsp }

theorem State.Inv.setStackEntry (k : Nat) {r : Word} (hr : r.toNat ≤ 0x1000) :
    (s.setStack (s.stack.set k r)).Inv :=
  { h with
    stackLength := List.length_set.trans h.stackLength
    stackEntries := fun q hq => by
      obtain hq | rfl := List.mem_or_eq_of_mem_set hq
      · exact h.stackEntries q hq
      · exact hr }

theorem State.Inv.setDt (d : Byte) : (s.setDt d).Inv := { h with }

theorem State.Inv.setSt (d : Byte) : (s.setSt d).Inv := { h with }

theorem State.Inv.setDisp (d : Display) : (s.setDisp d).Inv := { h with }

theorem State.Inv.setKey (keys : Keys) : (s.setKey keys).Inv := { h with }

theorem State.Inv.setKeySnap (keys : Keys) : (s.setKeySnap keys).Inv := { h with }

theorem State.Inv.setWaitReg (x : Reg) : (s.setWaitReg x).Inv := { h with }

theorem State.Inv.setDraws (n : Nat) : (s.setDraws n).Inv := { h with }

theorem State.Inv.setWait {b : Bool} (hr : s.run ≠ .halted) : (s.setWait b).Inv :=
  { h with waitNotHalted := fun _ => hr }

theorem State.Inv.setProgLen {n : Word} (hn : n.toNat ≤ Config.maxProgram) : (s.setProgLen n).Inv :=
  { h with progBound := hn }

/-- Only `raise Halt` may enter Halted, so a write of RUN keeps the invariant between the other two. -/
theorem State.Inv.setRun {r : RunState} (hs : s.run ≠ .halted) (hr : r ≠ .halted) : (s.setRun r).Inv :=
  { h with
    haltedIff := ⟨fun he => absurd he hr, fun he => absurd (h.haltedIff.2 he) hs⟩
    waitNotHalted := fun _ => hr }

/-- A halt keeps the invariant where no key wait is pending and a recorded word is invalid (10_state.md R49, R52). -/
theorem State.Inv.raiseHalt {e : RuntimeError} (hw : s.wait = false)
    (he : ∀ w, e = .invalidOpcode w → wordValid w = false) : (s.raiseHalt e).Inv :=
  { h with
    haltedIff := by cases e <;> simp [RuntimeError.code]
    haltCode := e.code_range.2
    haltWord := by cases e <;> simp [RuntimeError.code, RuntimeError.word]
    haltWordInvalid := by
      cases e with
      | invalidOpcode w => exact fun _ => he w rfl
      | _ => simp [RuntimeError.code]
    waitNotHalted := fun hw' => by simp [hw] at hw' }

/-! ### Every instruction keeps it -/

theorem State.Inv.skipIf (hpc : s.pc.toNat ≤ 0x1000) (c : Bool) : (s.skipIf c).Inv := by
  rw [State.skipIf_eq]
  refine h.setPc ?_
  split
  · simp only [skipTarget]; bv_omega
  · exact h.pcBound

/-- The popped entry of a return is a program counter (10_state.md R41). -/
theorem State.Inv.readStack_le {k : Nat} {r : Word} (hk : s.readStack k = some r) : r.toNat ≤ 0x1000 :=
  h.stackEntries r (List.mem_of_getElem? hk)

/-- `exec` keeps the invariant from a state whose PC was just advanced by a step that fetched. -/
theorem State.Inv.exec {i : Instr} {t : State} (hrun : s.run = .running) (hwait : s.wait = false)
    (hpc : s.pc.toNat ≤ 0x1000) (he : Machine.exec i s = .next t) : t.Inv := by
  have hnh : s.run ≠ .halted := by simp [hrun]
  cases i with
  | ret =>
    obtain ⟨-, hr⟩ | ⟨hsp, r, hget, hr⟩ | ⟨-, -, hr⟩ := execRet_cases s <;> cases hr.symm.trans he
    · exact h.raiseHalt hwait nofun
    · have hsp : (s.sp - 1).toNat ≤ s.cfg.depth := by have := h.spBound; bv_omega
      have hr := h.readStack_le hget
      exact (h.setSp hsp).setPc (by omega)
  | call nnn =>
    obtain ⟨-, hc⟩ | ⟨-, hlt, hc⟩ | ⟨-, -, hc⟩ := execCall_cases nnn s <;> cases hc.symm.trans he
    · exact h.raiseHalt hwait nofun
    · have hsp : (s.sp + 1).toNat ≤ s.cfg.depth := by have := h.stackLength; bv_omega
      exact ((h.setStackEntry _ hpc).setSp hsp).setPc (by simp only [addressOperand]; bv_omega)
  | jp nnn => cases he; exact h.setPc (by simp only [addressOperand]; bv_omega)
  | jpV0 nnn => cases he; exact h.setPc (by simp only [indexedTarget]; bv_omega)
  | seImm | sneImm | seReg | sneReg | skp | sknp => cases he; exact h.skipIf hpc _
  | cls => cases he; exact h.setDisp _
  | ldImm | addImm | ldReg | orReg | andReg | xorReg | ldVxDt | addReg | sub | shr | subn | shl =>
    cases he; exact h.setV _
  | ldI | ldFVx => cases he; exact h.setIdx _
  | rnd => cases he; exact (h.setV _).setDraws _
  | drw => cases he; exact (h.setDisp _).setV _
  | ldVxK => cases he; exact ((h.setWait hnh).setWaitReg _).setKeySnap _
  | ldDtVx => cases he; exact h.setDt _
  | ldStVx => cases he; exact h.setSt _
  | addIVx =>
    cases he
    split
    · exact (h.setIdx _).setV _
    · exact h.setIdx _
  | ldBVx => cases he; exact State.storeBytes_eq .. ▸ h.setMem (State.storeBytes_wf h.memCanonical _ _ _)
  | ldMemVx => cases he; exact State.storeRegs_eq .. ▸ h.setMem (State.storeRegs_wf h.memCanonical _)
  | ldVxMem => cases he; exact State.loadRegs_eq .. ▸ h.setV _

/-! ### Every step keeps it -/

theorem State.Inv.keyWaitPoll (hr : s.run ≠ .halted) : s.keyWaitPoll.Inv := by
  obtain ⟨-, hp⟩ | ⟨k, -, hp⟩ := s.keyWaitPoll_cases <;> rw [hp]
  · exact h.setKeySnap _
  · exact ((h.setV (s.writeV s.waitReg (keyByte k)).v).setWait hr).setKeySnap _

end

theorem State.Fetches.advancePc_le {s : State} (h : s.Fetches) : s.advancePc.pc.toNat ≤ 0x1000 := by
  have := h.inBounds
  simp only [State.advancePc_pc]
  bv_omega

theorem State.Inv.advancePc {s : State} (h : s.Inv) (hf : s.Fetches) : s.advancePc.Inv :=
  h.setPc (Nat.le_trans hf.advancePc_le (by decide))

theorem State.Inv.step {s t : State} (h : s.Inv) (hs : Machine.step s = .next t) : t.Inv := by
  obtain ⟨-, he⟩ | ⟨hr, -, he⟩ | ⟨-, hw, -, he⟩ | ⟨-, hw, -, -, he⟩ | ⟨hf, w, hd, he⟩ | ⟨hf, i, -, he⟩ := step_cases s
  case inr.inr.inr.inr.inr => exact (h.advancePc hf).exec hf.running hf.notWait hf.advancePc_le (he.symm.trans hs)
  all_goals cases he.symm.trans hs
  · exact h
  · exact h.keyWaitPoll (by simp [hr])
  · exact h.raiseHalt hw nofun
  · exact h.raiseHalt hw nofun
  · refine (h.advancePc hf).raiseHalt hf.notWait ?_
    rintro _ ⟨⟩
    exact wordValid_of_decode_invalidOpcode hd

/-- Settles O52, by the cases of a step. -/
theorem everyStepKeepsTheInvariant : Obligations.EveryStepKeepsTheInvariant :=
  fun _ _ h hs => h.step hs

/-! ### The session invariant, one rule an event -/

theorem State.Inv.tick {s : State} (h : s.Inv) : s.tick.Inv :=
  s.tick_eq ▸ (h.setDt _).setSt _

theorem State.Inv.setRunState {s : State} (h : s.Inv) (r : RunRequest) : (s.setRunState r).Inv := by
  obtain ⟨-, he⟩ | ⟨hr, he⟩ := s.setRunState_cases r <;> rw [he]
  · exact h
  · exact h.setRun hr (by cases r <;> exact nofun)

/-- A load keeps the invariant on a state that is not halted (70_reset_and_hazards.md R352). -/
theorem State.Inv.loadImage {s : State} (h : s.Inv) (hr : s.run ≠ .halted) {bytes : List Byte}
    (hfit : imageFits bytes = true) : (s.loadImage bytes).Inv := by
  have hlen : bytes.length ≤ 3584 := of_decide_eq_true hfit
  rw [State.loadImage_eq]
  refine (((h.setMem (State.loadImage_wf h.memCanonical bytes)).setProgLen ?_).setPc (by decide)).setRun hr nofun
  rw [BitVec.toNat_ofNat, Nat.mod_eq_of_lt (by omega)]
  exact hlen

theorem Session.Inv.run_ne_halted {z : Session} (h : z.Inv) (hf : z.fresh = true) : z.state.run ≠ .halted := by
  obtain ⟨keys, hk⟩ := h.fresh hf
  rw [hk]
  simp

/-- A session that is not fresh owes the invariant of its state alone. -/
theorem Session.Inv.of_used {s : State} (h : s.Inv) : Session.Inv { state := s, fresh := false } :=
  ⟨h, nofun⟩

theorem Session.Inv.load {z z' : Session} {bytes : List Byte} {r : Response} (h : z.Inv)
    (he : z.load bytes = .next (z', r)) : z'.Inv := by
  unfold Session.load at he
  split at he
  · cases he
  · next hf =>
    split at he <;> cases he
    · next hfit => exact .of_used (h.state.loadImage (h.run_ne_halted (by simpa using hf)) hfit)
    · exact h

theorem Session.Inv.step {z z' : Session} {r : Response} (h : z.Inv) (he : z.step = .next (z', r)) : z'.Inv := by
  unfold Session.step at he
  split at he <;> cases he
  next hs => exact .of_used (h.state.step hs)

theorem Session.Inv.setRunState {z z' : Session} {q : RunState} {r : Response} (h : z.Inv)
    (he : z.setRunState q = .next (z', r)) : z'.Inv := by
  cases q <;> cases he <;> exact .of_used (h.state.setRunState _)

theorem Session.Inv.writeKeys {z : Session} (h : z.Inv) (keys : Keys) :
    Session.Inv { state := z.state.setKey keys, fresh := z.fresh } where
  state := h.state.setKey keys
  fresh hf := by
    obtain ⟨old, hk⟩ := h.fresh hf
    exact ⟨keys, congrArg (·.setKey keys) hk⟩

theorem Session.Inv.event {z z' : Session} {e : Event} {r : Response} (h : z.Inv)
    (he : z.event e = .next (z', r)) : z'.Inv := by
  cases e with
  | load bytes => exact h.load he
  | step => exact h.step he
  | tick => cases he; exact .of_used h.state.tick
  | setRunState q => exact h.setRunState he
  | writeKeys keys => cases he; exact h.writeKeys keys

/-- Settles O53, by induction on the run of events. -/
theorem everyRunOfEventsKeepsTheInvariant : Obligations.EveryRunOfEventsKeepsTheInvariant := by
  intro z z' es h hrun
  induction hrun with
  | nil => exact h
  | cons he _ ih => exact ih (h.event he)

/-! ### What no step writes, and what moves the stack -/

/-- A step executes an instruction, or writes nothing but a register, PC, the halt record and the key wait. -/
theorem step_executes_or_keeps {s t : State} (h : step s = .next t) :
    (s.Fetches ∧ ∃ i, decode s.fetchWord = .instr i ∧ exec i s.advancePc = .next t) ∨
    t = { s with
      v := t.v, pc := t.pc, run := t.run, haltReason := t.haltReason, haltWord := t.haltWord, wait := t.wait,
      keySnap := t.keySnap } := by
  obtain ⟨-, he⟩ | ⟨-, -, he⟩ | ⟨-, -, -, he⟩ | ⟨-, -, -, -, he⟩ | ⟨-, w, -, he⟩ | ⟨hf, i, hd, he⟩ := step_cases s
  case inr.inr.inr.inr.inr => exact .inl ⟨hf, i, hd, he.symm.trans h⟩
  all_goals cases he.symm.trans h
  case inr.inl => obtain ⟨-, hp⟩ | ⟨k, -, hp⟩ := s.keyWaitPoll_cases <;> rw [hp] <;> exact .inr rfl
  all_goals exact .inr rfl

/-- The fields no step writes (10_state.md R47, R50). -/
theorem step_keeps_host_fields {s t : State} (h : step s = .next t) :
    t.key = s.key ∧ t.progLen = s.progLen ∧ t.cfg = s.cfg := by
  obtain ⟨-, i, -, hx⟩ | ht := step_executes_or_keeps h
  · obtain ⟨e, -, rfl⟩ | hw := exec_halts_or_within hx
    · exact ⟨rfl, rfl, rfl⟩
    · exact ⟨hw.key, hw.progLen, hw.cfg⟩
  · rw [ht]
    exact ⟨rfl, rfl, rfl⟩

/-- Settles O55: the three fields are in no frame, and a step that executes no instruction leaves them alone. -/
theorem stepNeverWritesKeysLengthOrParameters : Obligations.StepNeverWritesKeysLengthOrParameters :=
  fun _ _ => step_keeps_host_fields

theorem Within.stack_eq {f : Footprint} {s t : State} (h : Within f s t) (hf : ∀ k, f.stack k = false) :
    t.stack = s.stack :=
  List.ext_getElem? fun k => h.stack k (hf k)

/-- Only RET and CALL have SP in their footprint, and only CALL has an entry of STACK. -/
theorem exec_keeps_stack {i : Instr} {s t : State} (hr : i ≠ .ret) (hc : ∀ nnn, i ≠ .call nnn)
    (h : exec i s = .next t) : t.sp = s.sp ∧ t.stack = s.stack := by
  obtain ⟨e, -, rfl⟩ | hw := exec_halts_or_within h
  · exact ⟨rfl, rfl⟩
  · have hsp : (frame s i).sp = false := by
      cases i with
      | ret => exact absurd rfl hr
      | call => exact absurd rfl (hc _)
      | _ => rfl
    have hst (k : Nat) : (frame s i).stack k = false := by
      cases i with
      | call => exact absurd rfl (hc _)
      | _ => rfl
    exact ⟨hw.sp hsp, hw.stack_eq hst⟩

theorem exec_ret_stack {s t : State} (h : exec .ret s = .next t) :
    (t.sp = s.sp ∨ t.sp.toNat + 1 = s.sp.toNat) ∧ t.stack = s.stack := by
  obtain ⟨-, hr⟩ | ⟨hsp, r, -, hr⟩ | ⟨-, -, hr⟩ := execRet_cases s <;> cases hr.symm.trans h
  · exact ⟨.inl rfl, rfl⟩
  · exact ⟨.inr (by simp only [State.setPc_sp, State.setSp_sp]; bv_omega), rfl⟩

theorem exec_call_sp {s t : State} {nnn : Addr} (hs : s.Inv) (h : exec (.call nnn) s = .next t) :
    t.sp = s.sp ∨ t.sp.toNat = s.sp.toNat + 1 := by
  obtain ⟨-, hc⟩ | ⟨hne, -, hc⟩ | ⟨-, -, hc⟩ := execCall_cases nnn s <;> cases hc.symm.trans h
  · exact .inl rfl
  · have hle := hs.spBound
    have hd : s.cfg.depth ≤ 32 := by unfold Params.depth; cases s.cfg.stackDepth <;> decide
    exact .inr (by simp only [State.setPc_sp, State.setSp_sp]; bv_omega)

/-- Settles O57: a step that executes RET or CALL fetched the word it decodes from, and every other step keeps SP and
STACK. -/
theorem onlyCallAndReturnMoveTheStackPointer : Obligations.OnlyCallAndReturnMoveTheStackPointer := by
  intro s t hs h
  obtain ⟨hf, i, hd, hx⟩ | ht := step_executes_or_keeps h
  · by_cases hr : i = .ret
    · subst hr
      obtain ⟨hsp, hst⟩ := exec_ret_stack hx
      exact ⟨hsp.imp id fun hsp => .inr ⟨hf, decode_eq_ret hd, hsp⟩, .inl hst⟩
    by_cases hc : ∃ nnn, i = .call nnn
    · obtain ⟨nnn, rfl⟩ := hc
      have hop := decode_eq_call hd
      exact ⟨(exec_call_sp (hs.advancePc hf) hx).imp id fun hsp => .inl ⟨hf, hop, hsp⟩, .inr ⟨hf, hop⟩⟩
    · obtain ⟨hsp, hst⟩ := exec_keeps_stack hr (not_exists.1 hc) hx
      exact ⟨.inl hsp, .inl hst⟩
  · rw [ht]
    exact ⟨.inl rfl, .inl rfl⟩

/-! ### The bits of I above the address space (10_state.md R35) -/

/-- The address of a data access depends on I modulo the address space alone (20_memory.md R83). -/
theorem dataAddr_congr {i j : Word} (h : j.setWidth 12 = i.setWidth 12) (k : Nat) : dataAddr j k = dataAddr i k := by
  simp only [dataAddr, maskAddress, ← BitVec.toNat_inj, BitVec.toNat_setWidth, BitVec.toNat_ofNat] at *
  omega

theorem indexSum_congr {i j : Word} (h : j.setWidth 12 = i.setWidth 12) (a : Byte) :
    (indexSum j a).setWidth 12 = (indexSum i a).setWidth 12 := by
  simp only [indexSum, ← BitVec.toNat_inj, BitVec.toNat_setWidth, BitVec.toNat_ofNat] at *
  omega

theorem State.storeBytes_setIdx {i j : Word} (h : j.setWidth 12 = i.setWidth 12) (s : State) (k : Nat)
    (bs : List Byte) : (s.setIdx j).storeBytes j k bs = (s.storeBytes i k bs).setIdx j := by
  induction bs generalizing s k with
  | nil => rfl
  | cons b bs ih => rw [State.storeBytes, dataAddr_congr h]; exact ih (s.writeMem (dataAddr i k) b) (k + 1)

theorem State.skipIf_setIdx (s : State) (j : Word) (c : Bool) : (s.setIdx j).skipIf c = (s.skipIf c).setIdx j := by
  cases c <;> rfl

theorem State.readStack_setIdx (s : State) (j : Word) (k : Nat) : (s.setIdx j).readStack k = s.readStack k := rfl

theorem State.keyWaitPoll_setIdx (s : State) (j : Word) : (s.setIdx j).keyWaitPoll = s.keyWaitPoll.setIdx j := by
  unfold State.keyWaitPoll
  rw [show (s.setIdx j).firstPressed = s.firstPressed from rfl]
  cases s.firstPressed <;> rfl

theorem State.keyWaitPoll_idx (s : State) : s.keyWaitPoll.idx = s.idx := by
  obtain ⟨-, hp⟩ | ⟨k, -, hp⟩ := s.keyWaitPoll_cases <;> rw [hp] <;> rfl

section
variable {s : State} {j : Word} (h : j.setWidth 12 = s.idx.setWidth 12)
include h

theorem SameAddresses.setIdx : SameAddresses s (s.setIdx j) := ⟨rfl, h⟩

theorem State.spriteByte_setIdx : (s.setIdx j).spriteByte = s.spriteByte :=
  funext fun r => congrArg s.readMem (dataAddr_congr h r)

theorem State.storeRegs_setIdx (n : Nat) : (s.setIdx j).storeRegs n = (s.storeRegs n).setIdx j := by
  induction n with
  | zero => rfl
  | succ n ih => rw [State.storeRegs, ih, State.setIdx_idx, dataAddr_congr h]; rfl

theorem State.loadRegs_setIdx (n : Nat) : (s.setIdx j).loadRegs n = (s.loadRegs n).setIdx j := by
  induction n with
  | zero => rfl
  | succ n ih => rw [State.loadRegs, ih, State.setIdx_idx, dataAddr_congr h]; rfl

theorem SameAddresses.skipIf (c : Bool) : SameAddresses (s.skipIf c) ((s.setIdx j).skipIf c) := by
  rw [State.skipIf_setIdx]
  exact .setIdx (by simpa using h)

theorem SameAddresses.keyWaitPoll : SameAddresses s.keyWaitPoll (s.setIdx j).keyWaitPoll := by
  rw [State.keyWaitPoll_setIdx]
  exact .setIdx (s.keyWaitPoll_idx ▸ h)

/-- One instruction from two states that differ in the upper bits of I: it ends alike, because it uses I as an
address, overwrites it, or (where `FX1E_SETS_VF` is false) adds to it modulo the address space. -/
theorem exec_endAlike (i : Instr) (hcfg : s.cfg.fx1eSetsVf = false) : EndAlike (exec i s) (exec i (s.setIdx j)) := by
  cases i with
  | ret =>
    by_cases hsp : s.sp = 0
    · simp only [exec, execRet, State.setIdx_sp, hsp, ↓reduceIte]
      exact ⟨rfl, h⟩
    · simp only [exec, execRet, State.setIdx_sp, hsp, ↓reduceIte, State.readStack_setIdx]
      cases s.readStack (s.sp - 1).toNat
      · exact rfl
      · exact ⟨rfl, h⟩
  | call nnn =>
    by_cases hsp : s.sp.toNat = s.cfg.depth
    · simp only [exec, execCall, State.setIdx_sp, State.setIdx_cfg, hsp, ↓reduceIte]
      exact ⟨rfl, h⟩
    · simp only [exec, execCall, State.setIdx_sp, State.setIdx_cfg, hsp, ↓reduceIte, State.writeStack, State.setIdx_stack]
      by_cases hk : s.sp.toNat < s.stack.length
      · simp only [hk, ↓reduceIte]
        exact ⟨rfl, h⟩
      · simp only [hk, ↓reduceIte]
        exact rfl
  | seImm | sneImm | seReg | sneReg | skp | sknp => exact .skipIf h _
  | ldI | ldFVx => exact ⟨rfl, rfl⟩
  | addIVx x =>
    simp only [exec, execAddIVx, State.setIdx_cfg, hcfg]
    exact ⟨rfl, indexSum_congr h _⟩
  | drw x y n =>
    simp only [exec, execDrw, State.spriteByte_setIdx h]
    exact ⟨rfl, h⟩
  | ldBVx x =>
    simp only [exec, execLdBVx, State.setIdx_idx, State.storeBytes_setIdx h]
    exact .setIdx (by simpa using h)
  | ldMemVx x =>
    simp only [exec, execLdMemVx, State.storeRegs_setIdx h]
    exact .setIdx (by simpa using h)
  | ldVxMem x =>
    simp only [exec, execLdVxMem, State.loadRegs_setIdx h]
    exact .setIdx (by simpa using h)
  | _ => exact ⟨rfl, h⟩

theorem step_endAlike (hcfg : s.cfg.fx1eSetsVf = false) : EndAlike (step s) (step (s.setIdx j)) := by
  unfold step
  rw [State.setIdx_run, State.setIdx_wait, show (s.setIdx j).fetch = s.fetch from rfl]
  split
  · exact ⟨rfl, h⟩
  · split
    · exact .keyWaitPoll h
    · cases s.fetch with
      | error e => exact ⟨rfl, h⟩
      | ok w =>
        dsimp only
        cases decode w with
        | invalidOpcode w' => exact ⟨rfl, h⟩
        | instr i => exact exec_endAlike (s := s.advancePc) h i hcfg

end

/-- Outcomes that are alike are two next states that differ at most in the upper bits of I, or the same stop. -/
theorem EndAlike.cases {o o' : Host.Outcome State Fault Refusal} (h : EndAlike o o') :
    (∃ s t, o = .next s ∧ o' = .next t ∧ SameAddresses s t) ∨ (o' = o ∧ ∀ s, o ≠ .next s) := by
  cases o <;> cases o'
  case next.next s t => exact .inl ⟨s, t, rfl, rfl, h⟩
  case fault.fault | refused.refused => cases h; exact .inr ⟨rfl, by simp⟩
  all_goals exact h.elim

theorem core_run_succ_of_next {s t : State} (h : step s = .next t) (n : Nat) :
    Sys2Proof.core.run (n + 1) s = Sys2Proof.core.run n t := by
  simp only [Host.Core.run, core, h]

/-- Two states whose steps stop in the same way have the same runs. -/
theorem core_run_succ_of_stop {s s' : State} (h : step s' = step s) (hstop : ∀ t, step s ≠ .next t) (n : Nat) :
    EndAlike (Sys2Proof.core.run (n + 1) s) (Sys2Proof.core.run (n + 1) s') := by
  simp only [Host.Core.run, core, h]
  cases ho : step s with
  | next t => exact absurd ho (hstop t)
  | fault r => exact rfl
  | refused r => exact rfl

/-- Settles O58, by induction on the number of steps: each step ends alike and keeps the parameters. -/
theorem upperIndexBitsAreInvisible : Obligations.UpperIndexBitsAreInvisible := by
  intro s s' n hcfg hs
  induction n generalizing s s' with
  | zero => exact hs
  | succ n ih =>
    obtain ⟨hs', hj⟩ := hs
    have hstep : EndAlike (step s) (step s') := hs' ▸ step_endAlike hj hcfg
    obtain ⟨t, t', ht, ht', htt⟩ | ⟨heq, hstop⟩ := hstep.cases
    · obtain ⟨-, -, hc⟩ := step_keeps_host_fields ht
      rw [core_run_succ_of_next ht, core_run_succ_of_next ht']
      exact ih t t' (hc ▸ hcfg) htt
    · exact core_run_succ_of_stop heq hstop n

end Sys2Proof.Machine

namespace Sys2Proof.Machine

/-! ### Memory as data (20_memory.md section 1): a canonical list is determined by what it reads as -/

/-- The listed addresses rise strictly. -/
theorem Memory.pairwise_of_wf {m : Memory} (h : m.wf = true) : m.Pairwise (InvImage (· < ·) Prod.fst) := by
  induction m with
  | nil => exact .nil
  | cons c m ih =>
    obtain ⟨-, -, hab, hw⟩ := (Memory.wf_listed c.1 c.2 m).1 h
    exact .cons hab (ih hw)

/-- The cells of a canonical memory are the addresses of the space that read otherwise than construction left them,
each with the byte it reads as. -/
theorem Memory.mem_iff_of_wf {m : Memory} (h : m.wf = true) (a : Nat) (x : Byte) :
    (a, x) ∈ m ↔ a < Config.memSize ∧ x ≠ Memory.initial a ∧ Memory.read m a = x := by
  induction m with
  | nil => simpa using fun _ hx => Ne.symm hx
  | cons c m ih =>
    obtain ⟨b, y⟩ := c
    obtain ⟨hb, hy, hab, hw⟩ := (Memory.wf_listed b y m).1 h
    rw [List.mem_cons, ih hw, Memory.read_listed, Prod.mk.injEq]
    by_cases hba : a = b
    · subst hba
      have hinit : Memory.read m a = Memory.initial a := Memory.read_of_above hab
      rw [if_pos rfl]
      constructor
      · rintro (⟨-, rfl⟩ | ⟨-, hx, hr⟩)
        · exact ⟨hb, hy, rfl⟩
        · exact absurd (hr.symm.trans hinit) hx
      · rintro ⟨-, -, hyx⟩
        exact .inl ⟨rfl, hyx.symm⟩
    · simp [hba]

theorem Memory.nodup_of_wf {m : Memory} (h : m.wf = true) : m.Nodup :=
  (Memory.pairwise_of_wf h).imp fun {_ _} hlt heq => Nat.ne_of_lt hlt (congrArg Prod.fst heq)

/-- Canonical memories with the same cells list them in the same order, since the addresses rise strictly. -/
theorem Memory.eq_of_mem_iff {m m' : Memory} (h : m.wf = true) (h' : m'.wf = true) (hmem : ∀ c, c ∈ m ↔ c ∈ m') :
    m = m' := by
  have hperm : m.Perm m' := (List.perm_ext_iff_of_nodup (Memory.nodup_of_wf h) (Memory.nodup_of_wf h')).2 hmem
  exact hperm.eq_of_pairwise (fun _ _ _ _ hlt hgt => absurd hgt (Nat.lt_asymm hlt))
    (Memory.pairwise_of_wf h) (Memory.pairwise_of_wf h')

/-- Settles O32: two canonical memories that read alike have the same cells. -/
theorem canonicalMemoriesThatReadAlikeAreEqual : Obligations.CanonicalMemoriesThatReadAlikeAreEqual := by
  intro m m' h h' hread
  refine Memory.eq_of_mem_iff h h' fun (a, x) => ?_
  rw [Memory.mem_iff_of_wf h, Memory.mem_iff_of_wf h']
  refine and_congr_right fun ha => ?_
  have hra : Memory.read m a = Memory.read m' a := hread ⟨a, ha⟩
  rw [hra]

/-! ### A store is seen by the next fetch (20_memory.md R100) -/

theorem wordOfBytes_eq_ofNat (b b' : Byte) : wordOfBytes b b' = BitVec.ofNat 16 (256 * b.toNat + b'.toNat) := by
  unfold wordOfBytes
  apply BitVec.eq_of_toNat_eq
  rw [BitVec.toNat_append, ← Nat.shiftLeft_add_eq_or_of_lt b'.isLt, Nat.shiftLeft_eq, BitVec.toNat_ofNat]
  omega

theorem State.Fetches.fetch_eq {s : State} (h : s.Fetches) : s.fetch = .ok s.fetchWord := by
  obtain ⟨-, -, hbounds, hend⟩ := h
  obtain ⟨hpc, -⟩ | ⟨-, hpc, -⟩ | ⟨-, -, hfetch⟩ := s.fetch_cases
  · omega
  · omega
  · exact hfetch

/-- A fetch answers the big-endian word of what the two addresses read as, in any state with the same memory. -/
theorem State.Fetches.fetch_of_reads {t u : State} (h : u.Fetches) (hmem : u.mem = t.mem) {b b' : Byte}
    (hb : t.readMem (BitVec.ofNat 12 u.pc.toNat) = b) (hb' : t.readMem (BitVec.ofNat 12 (u.pc.toNat + 1)) = b') :
    u.fetch = .ok (BitVec.ofNat 16 (256 * b.toNat + b'.toNat)) := by
  rw [h.fetch_eq, State.fetchWord, State.readMem_congr hmem, State.readMem_congr hmem, hb, hb', wordOfBytes_eq_ofNat]

/-- After `LD [I], Vx` an address reads as it holds (42_index_memory.md R225). -/
theorem State.HoldsAfterStore.readMem_ldMemVx {s t : State} (hm : s.mem.wf = true) {x : Reg}
    (hx : exec (.ldMemVx x) s = .next t) {a : Addr} {b : Byte}
    (h : s.HoldsAfterStore (x.val + 1) (fun k => s.readV (regOfNat k)) a b) : t.readMem a = b := by
  cases hx
  exact h.readMem_storeRegs hm (by omega)

/-- The three digits that `LD B, Vx` stores, by their places (42_index_memory.md R224). -/
theorem decimalDigits_getElem (v : Byte) (k : Nat) (hk : k < 3) :
    [hundredsDigit v, tensDigit v, onesDigit v][k] = BitVec.ofNat 8 (v.toNat / 10 ^ (2 - k) % 10) := by
  have hv : v.toNat < 256 := v.isLt
  match k with
  | 0 => exact congrArg (BitVec.ofNat 8) (show v.toNat / 100 = v.toNat / 100 % 10 by omega)
  | 1 => rfl
  | 2 => exact congrArg (BitVec.ofNat 8) (show v.toNat % 10 = v.toNat / 1 % 10 by omega)

/-- After `LD B, Vx` an address reads as it holds (42_index_memory.md R224). -/
theorem State.HoldsAfterStore.readMem_ldBVx {s t : State} (hm : s.mem.wf = true) {x : Reg}
    (hx : exec (.ldBVx x) s = .next t) {a : Addr} {b : Byte}
    (h : s.HoldsAfterStore 3 (fun k => BitVec.ofNat 8 ((s.readV x).toNat / 10 ^ (2 - k) % 10)) a b) :
    t.readMem a = b := by
  cases hx
  exact h.readMem_storeBytes hm [hundredsDigit _, tensDigit _, onesDigit _] (by simp) (decimalDigits_getElem (s.readV x))

/-- Settles O31: each of the two bytes reads as it holds after the store, and the fetch is their word. -/
theorem storedBytesAreFetchedNext : Obligations.StoredBytesAreFetchedNext := by
  intro x s t u b b' hm hmem hf a a' word digit
  exact ⟨fun hx hb hb' => hf.fetch_of_reads hmem (hb.readMem_ldMemVx hm hx) (hb'.readMem_ldMemVx hm hx),
    fun hx hb hb' => hf.fetch_of_reads hmem (hb.readMem_ldBVx hm hx) (hb'.readMem_ldBVx hm hx)⟩

end Sys2Proof.Machine

namespace Sys2Proof

open Laws.OpNibble

/-! ### The fields of a word in each format, both ways (30_encoding.md R112, R115) -/

@[simp] theorem nnnField_wordA (op : Nibble) (nnn : Addr) : nnnField (wordA op nnn) = nnn := by
  have := nnn.isLt
  apply BitVec.eq_of_toNat_eq
  rw [nnnField_toNat, toNat_wordA]
  omega

@[simp] theorem xField_wordXB (op : Nibble) (x : Reg) (nn : Byte) : xField (wordXB op x nn) = x := by
  have := nn.isLt
  apply Fin.ext
  rw [xField_val, toNat_wordXB]
  omega

@[simp] theorem nnField_wordXB (op : Nibble) (x : Reg) (nn : Byte) : nnField (wordXB op x nn) = nn := by
  have := nn.isLt
  apply BitVec.eq_of_toNat_eq
  rw [nnField_toNat, toNat_wordXB]
  omega

@[simp] theorem xField_wordXY (op : Nibble) (x y : Reg) (n : Nibble) : xField (wordXY op x y n) = x := by
  have := n.isLt
  apply Fin.ext
  rw [xField_val, toNat_wordXY]
  omega

@[simp] theorem yField_wordXY (op : Nibble) (x y : Reg) (n : Nibble) : yField (wordXY op x y n) = y := by
  have := n.isLt
  apply Fin.ext
  rw [yField_val, toNat_wordXY]
  omega

@[simp] theorem nField_wordXY (op : Nibble) (x y : Reg) (n : Nibble) : nField (wordXY op x y n) = n := by
  have := n.isLt
  apply BitVec.eq_of_toNat_eq
  rw [nField_toNat, toNat_wordXY]
  omega

theorem wordA_fields {w : Word} {op : Nibble} (hop : (opField w).toNat = op.toNat) :
    wordA op (nnnField w) = w := by
  apply BitVec.eq_of_toNat_eq
  rw [toNat_wordA, ← hop, opField_toNat, nnnField_toNat]
  omega

theorem wordXB_fields {w : Word} {op : Nibble} {nn : Byte} (hop : (opField w).toNat = op.toNat)
    (hnn : (nnField w).toNat = nn.toNat) : wordXB op (xField w) nn = w := by
  apply BitVec.eq_of_toNat_eq
  rw [toNat_wordXB, ← hop, ← hnn, opField_toNat, xField_val, nnField_toNat]
  omega

theorem wordXY_fields {w : Word} {op n : Nibble} (hop : (opField w).toNat = op.toNat)
    (hn : (nField w).toNat = n.toNat) : wordXY op (xField w) (yField w) n = w := by
  apply BitVec.eq_of_toNat_eq
  rw [toNat_wordXY, ← hop, ← hn, opField_toNat, xField_val, yField_val, nField_toNat]
  omega

/-! ### The decoder and the encoder agree -/

/-- The decoder's selecting fields of an encoded instruction are its row's, so each instruction takes its own branch,
and the operand fields read back what the format laid out. -/
theorem decode_encode (i : Instr) : decode (encode i) = .instr i := by
  cases i with
  | cls | ret => rfl
  | jp | call | ldI | jpV0 => simp [encode, decode, op_wordA]
  | seImm | sneImm | ldImm | addImm | rnd => simp [encode, decode, op_wordXB]
  | drw => simp [encode, decode, op_wordXY]
  | seReg | sneReg => simp [encode, decode, op_wordXY, decodeNibbleZero]
  | ldReg | orReg | andReg | xorReg | addReg | sub | shr | subn | shl =>
    simp [encode, decode, op_wordXY, decodeAlu]
  | skp | sknp => simp [encode, decode, op_wordXB, decodeKeys]
  | ldVxDt | ldVxK | ldDtVx | ldStVx | addIVx | ldFVx | ldBVx | ldMemVx | ldVxMem =>
    simp [encode, decode, op_wordXB, decodeMisc]

/-- Settles O1: one case per instruction, grouped by its word's format. -/
theorem decodeOfEncodeIsTheInstruction : Obligations.DecodeOfEncodeIsTheInstruction := decode_encode

theorem encode_of_decodeAlu {w : Word} {i : Instr} (hop : (opField w).toNat = 0x8) (h : decodeAlu w = .instr i) :
    encode i = w := by
  unfold decodeAlu at h
  split at h <;> cases h <;> exact wordXY_fields hop ‹_›

theorem encode_of_decodeKeys {w : Word} {i : Instr} (hop : (opField w).toNat = 0xE) (h : decodeKeys w = .instr i) :
    encode i = w := by
  unfold decodeKeys at h
  split at h <;> cases h <;> exact wordXB_fields hop ‹_›

theorem encode_of_decodeMisc {w : Word} {i : Instr} (hop : (opField w).toNat = 0xF) (h : decodeMisc w = .instr i) :
    encode i = w := by
  unfold decodeMisc at h
  split at h <;> cases h <;> exact wordXB_fields hop ‹_›

theorem nField_of_decodeNibbleZero {w : Word} {i j : Instr} (h : decodeNibbleZero w i = .instr j) : nField w = 0 := by
  unfold decodeNibbleZero at h
  split at h
  · assumption
  · cases h

/-- Every branch of the decoder fixes the bits that its instruction's fields leave out, so the format puts the word back
together. -/
theorem encode_of_decode {w : Word} {i : Instr} (h : decode w = .instr i) : encode i = w := by
  have hop : (opField w).toNat = Laws.OpNibble.family i := opField_of_decode h
  unfold decode at h
  split at h
  case h_1 => obtain ⟨rfl, rfl⟩ | ⟨rfl, rfl⟩ := decodeWhole_eq_instr h <;> rfl
  case h_2 | h_3 | h_11 | h_12 => cases h; exact wordA_fields hop
  case h_4 | h_5 | h_7 | h_8 | h_13 => cases h; exact wordXB_fields hop rfl
  case h_14 => cases h; exact wordXY_fields hop rfl
  case h_6 | h_10 =>
    obtain rfl := decodeNibbleZero_eq_instr h
    exact wordXY_fields hop (congrArg BitVec.toNat (nField_of_decodeNibbleZero h))
  case h_9 => exact encode_of_decodeAlu ‹_› h
  case h_15 => exact encode_of_decodeKeys ‹_› h
  case h_16 => exact encode_of_decodeMisc (hop.trans (family_of_decodeMisc h)) h

/-- Settles O2: the word is put back together from the fields the decoder read. -/
theorem encodeOfDecodeIsTheWord : Obligations.EncodeOfDecodeIsTheWord := fun _ _ => encode_of_decode

/-! ### The opcode table's masks, the six invalid patterns and the decoder (30_encoding.md R117, R119) -/

theorem wordA_and_F000 (op : Nibble) (nnn : Addr) : wordA op nnn &&& 0xF000 = wordA op 0 := by
  have hmask : (0xF000 : Word) = wordA 0xF 0 := rfl
  have hop : op &&& 0xF = op := BitVec.and_allOnes
  have hnnn : nnn &&& 0 = 0 := BitVec.and_zero
  rw [hmask, wordA, wordA, BitVec.and_append, hop, hnnn, ← wordA]

theorem wordXB_and_F0FF (op : Nibble) (x : Reg) (nn : Byte) : wordXB op x nn &&& 0xF0FF = wordXB op 0 nn := by
  have hmask : (0xF0FF : Word) = wordXB 0xF 0 0xFF := rfl
  have hop : op &&& 0xF = op := BitVec.and_allOnes
  have hnn : nn &&& 0xFF = nn := BitVec.and_allOnes
  have hx : bitsOfReg x &&& bitsOfReg 0 = bitsOfReg 0 := BitVec.and_zero
  rw [hmask, wordXB, wordXB, BitVec.and_append, BitVec.and_append, hop, hx, hnn, ← wordXB]

theorem wordXY_and_F00F (op : Nibble) (x y : Reg) (n : Nibble) : wordXY op x y n &&& 0xF00F = wordXY op 0 0 n := by
  have hmask : (0xF00F : Word) = wordXY 0xF 0 0 0xF := rfl
  have hand (b : Nibble) : b &&& 0xF = b := BitVec.and_allOnes
  have hreg (r : Reg) : bitsOfReg r &&& bitsOfReg 0 = bitsOfReg 0 := BitVec.and_zero
  rw [hmask, wordXY, wordXY, BitVec.and_append, BitVec.and_append, BitVec.and_append, hand, hand, hreg, hreg,
    ← wordXY]

theorem wordValid_of_mem {m p w : Word} (hr : ⟨m, p⟩ ∈ opcodeRows) (h : w &&& m = p) : wordValid w = true :=
  List.any_eq_true.2 ⟨_, hr, beq_iff_eq.2 h⟩

/-- A row whose mask is the op field alone admits its whole family. -/
theorem wordValid_of_op {op : Nibble} {w : Word} (hr : ⟨0xF000, wordA op 0⟩ ∈ opcodeRows)
    (hop : (opField w).toNat = op.toNat) : wordValid w = true :=
  wordValid_of_mem hr (wordA_fields hop ▸ wordA_and_F000 op _)

theorem wordValid_wordXB {op : Nibble} {nn : Byte} (hr : ⟨0xF0FF, wordXB op 0 nn⟩ ∈ opcodeRows) (x : Reg) :
    wordValid (wordXB op x nn) = true :=
  wordValid_of_mem hr (wordXB_and_F0FF op x nn)

theorem wordValid_wordXY {op n : Nibble} (hr : ⟨0xF00F, wordXY op 0 0 n⟩ ∈ opcodeRows) (x y : Reg) :
    wordValid (wordXY op x y n) = true :=
  wordValid_of_mem hr (wordXY_and_F00F op x y n)

theorem wordValid_encode (i : Instr) : wordValid (encode i) = true := by
  cases i with
  | cls | ret => rfl
  | jp | call | ldI | jpV0 => exact wordValid_of_op (by decide) (op_wordA _ _)
  | seImm | sneImm | ldImm | addImm | rnd => exact wordValid_of_op (by decide) (op_wordXB _ _ _)
  | drw => exact wordValid_of_op (by decide) (op_wordXY _ _ _ _)
  | seReg | sneReg | ldReg | orReg | andReg | xorReg | addReg | sub | shr | subn | shl =>
    exact wordValid_wordXY (by decide) _ _
  | skp | sknp | ldVxDt | ldVxK | ldDtVx | ldStVx | addIVx | ldFVx | ldBVx | ldMemVx | ldVxMem =>
    exact wordValid_wordXB (by decide) _

/-- The well-formedness check accepts exactly the words that decode to an instruction. -/
theorem wordValid_iff_decodes (w : Word) : wordValid w = true ↔ ∃ i, decode w = .instr i := by
  constructor
  · intro hv
    obtain ⟨r, hr, hm⟩ := List.any_eq_true.1 hv
    exact decode_of_matches hr hm
  · rintro ⟨i, hi⟩
    exact encode_of_decode hi ▸ wordValid_encode i

theorem decode_of_wordValid_false {w : Word} (h : wordValid w = false) : decode w = .invalidOpcode w := by
  cases hd : decode w with
  | instr i => rw [(wordValid_iff_decodes w).2 ⟨i, hd⟩] at h; cases h
  | invalidOpcode w' => rw [decode_invalidOpcode_word hd]

theorem decodeWhole_invalid_iff (w : Word) : decodeWhole w = .invalidOpcode w ↔ w ≠ 0x00E0 ∧ w ≠ 0x00EE := by
  unfold decodeWhole
  split
  · next h => simp [h]
  · split
    · next h => simp [h]
    · next h h' => exact iff_of_true rfl ⟨h, h'⟩

theorem decodeNibbleZero_invalid_iff (w : Word) (i : Instr) :
    decodeNibbleZero w i = .invalidOpcode w ↔ w.toNat % 0x10 ≠ 0 := by
  have hn : nField w = 0 ↔ w.toNat % 0x10 = 0 := by rw [← nField_toNat, ← BitVec.toNat_inj]; rfl
  rw [Ne, ← hn]
  unfold decodeNibbleZero
  split
  · next h => exact iff_of_false nofun (not_not_intro h)
  · next h => exact iff_of_true rfl h

theorem decodeAlu_invalid_iff (w : Word) :
    decodeAlu w = .invalidOpcode w ↔ 8 ≤ w.toNat % 0x10 ∧ w.toNat % 0x10 ≤ 0xD ∨ w.toNat % 0x10 = 0xF := by
  rw [← nField_toNat]
  unfold decodeAlu
  split
  case h_10 => have := (nField w).isLt; grind
  all_goals simp [*]

theorem decodeKeys_invalid_iff (w : Word) :
    decodeKeys w = .invalidOpcode w ↔ w.toNat % 0x100 ≠ 0x9E ∧ w.toNat % 0x100 ≠ 0xA1 := by
  rw [← nnField_toNat]
  unfold decodeKeys
  split
  case h_3 h9E hA1 => exact iff_of_true rfl ⟨h9E, hA1⟩
  all_goals simp [*]

theorem decodeMisc_invalid_iff (w : Word) : decodeMisc w = .invalidOpcode w ↔
    w.toNat % 0x100 ∉ [0x07, 0x0A, 0x15, 0x18, 0x1E, 0x29, 0x33, 0x55, 0x65] := by
  rw [← nnField_toNat]
  unfold decodeMisc
  split
  case h_10 =>
    refine iff_of_true rfl ?_
    simp only [List.mem_cons, List.not_mem_nil, or_false, not_or]
    and_intros <;> assumption
  all_goals simp [*]

/-- The six patterns of 30_encoding.md R119. -/
def InvalidPattern (w : Word) : Prop :=
  let op := w.toNat / 0x1000
  let n := w.toNat % 0x10
  let nn := w.toNat % 0x100
  (op = 0x0 ∧ w ≠ 0x00E0 ∧ w ≠ 0x00EE) ∨ (op = 0x5 ∧ n ≠ 0) ∨
  (op = 0x8 ∧ (8 ≤ n ∧ n ≤ 0xD ∨ n = 0xF)) ∨ (op = 0x9 ∧ n ≠ 0) ∨
  (op = 0xE ∧ nn ≠ 0x9E ∧ nn ≠ 0xA1) ∨
  (op = 0xF ∧ nn ∉ [0x07, 0x0A, 0x15, 0x18, 0x1E, 0x29, 0x33, 0x55, 0x65])

theorem decode_invalid_iff (w : Word) : decode w = .invalidOpcode w ↔ InvalidPattern w := by
  unfold InvalidPattern decode
  rw [← opField_toNat]
  split
  case h_1 hop => simp only [decodeWhole_invalid_iff, hop]; simp
  case h_6 hop | h_10 hop => simp only [decodeNibbleZero_invalid_iff, hop]; simp
  case h_9 hop => simp only [decodeAlu_invalid_iff, hop]; simp
  case h_15 hop => simp only [decodeKeys_invalid_iff, hop]; simp
  case h_16 =>
    have hop : (opField w).toNat = 0xF := by have := (opField w).isLt; grind
    simp only [decodeMisc_invalid_iff, hop]; simp
  all_goals simp [*]

theorem decode_instr_iff (w : Word) : (∃ i, decode w = .instr i) ↔ ¬ InvalidPattern w := by
  rw [← decode_invalid_iff]
  cases hd : decode w with
  | instr i => simp
  | invalidOpcode w' => simp [decode_invalidOpcode_word hd]

/-- Settles O3: the decoder rejects exactly the six patterns, and the opcode table accepts exactly what decodes. -/
theorem invalidWordsAreExactlyTheListedPatterns : Obligations.InvalidWordsAreExactlyTheListedPatterns :=
  fun w => ⟨(decode_invalid_iff w).2, (decode_instr_iff w).2,
    (wordValid_iff_decodes w).trans (decode_instr_iff w)⟩

/-! ### Words written as numbers -/

theorem decode_ofNat {i : Instr} {n : Nat} (h : (encode i).toNat = n) : decode (BitVec.ofNat 16 n) = .instr i := by
  rw [← h, BitVec.ofNat_toNat, BitVec.setWidth_eq, decode_encode]

/-- Settles O4: the number of each row is the value of the instruction's encoding, which decodes to the instruction. -/
theorem wordsDecodeAsTheOpcodeMapSays : Obligations.WordsDecodeAsTheOpcodeMapSays := by
  intro x y n nn nnn word vx vy
  and_intros <;> refine decode_ofNat ?_
  · rfl
  · rfl
  all_goals simp +arith [encode, vx, vy]

/-- Settles O5, by running the decoder on the six words. -/
theorem sampleWordsOfEveryFormatDecode : Obligations.SampleWordsOfEveryFormatDecode := by
  unfold Obligations.SampleWordsOfEveryFormatDecode
  decide

end Sys2Proof

namespace Sys2Proof.Machine

/-! ### The step, case by case (30_encoding.md R135 to R140) -/

theorem step_not_running {s : State} (h : s.run ≠ .running) : step s = .next s := if_pos h

theorem step_fetch_error {s : State} (hr : s.run = .running) (hw : s.wait = false) {e : RuntimeError}
    (hf : s.fetch = .error e) : step s = .next (s.raiseHalt e) := by
  simp [step, hr, hw, hf]

theorem State.Fetches.step_invalid {s : State} (h : s.Fetches) {w : Word} (hd : decode s.fetchWord = .invalidOpcode w) :
    step s = .next (s.advancePc.raiseHalt (.invalidOpcode w)) := by
  simp [step, h.running, h.notWait, h.fetch_eq, hd]

theorem State.Fetches.step_instr {s : State} (h : s.Fetches) {i : Instr} (hd : decode s.fetchWord = .instr i) :
    step s = exec i s.advancePc := by
  simp [step, h.running, h.notWait, h.fetch_eq, hd]

/-- Settles O7: the test of RUN is the first in the step and in its status. -/
theorem stepIsANoOpWhenNotRunning : Obligations.StepIsANoOpWhenNotRunning :=
  fun _ h => ⟨step_not_running h, if_pos h⟩

/-- Settles O8: in each case of the fetch two of the three clauses have a false premise. -/
theorem fetchChecksHaltTheStep : Obligations.FetchChecksHaltTheStep := by
  intro s hr hw
  have hentry : Config.entry = 0x200 := rfl
  obtain ⟨hb, hf⟩ | ⟨hb, he, hf⟩ | ⟨hb, he, hf⟩ := s.fetch_cases
  · exact ⟨fun _ => step_fetch_error hr hw hf, fun _ _ => by omega, fun _ _ => by omega⟩
  · exact ⟨fun _ => by omega, fun _ _ => step_fetch_error hr hw hf, fun _ _ => by omega⟩
  · exact ⟨fun _ => by omega, fun _ _ => by omega, fun _ _ => hf⟩

/-- Settles O9: an invalid word decodes to its own rejection. -/
theorem invalidWordHaltsAfterTheAdvance : Obligations.InvalidWordHaltsAfterTheAdvance :=
  fun _ hf hv => hf.step_invalid (decode_of_wordValid_false hv)

/-- The fetched word is big-endian (20_memory.md R84). -/
theorem State.Fetches.fetchWord_toNat {s : State} (h : s.Fetches) :
    s.fetchWord.toNat = 256 * (s.mem.read s.pc.toNat).toNat + (s.mem.read (s.pc.toNat + 1)).toNat := by
  have hpc : (BitVec.ofNat 12 s.pc.toNat).toNat = s.pc.toNat := Nat.mod_eq_of_lt (by have := h.inBounds; omega)
  have hpc' : (BitVec.ofNat 12 (s.pc.toNat + 1)).toNat = s.pc.toNat + 1 :=
    Nat.mod_eq_of_lt (by have := h.inBounds; omega)
  rw [State.fetchWord, wordOfBytes, toNat_append_of, State.readMem, State.readMem, hpc, hpc']
  omega

/-- Settles O6: the word of the two bytes at PC is the fetched one. -/
theorem stepRunsTheDecodedInstruction : Obligations.StepRunsTheDecodedInstruction := by
  intro s w i hf hw hd
  obtain rfl : s.fetchWord = w := BitVec.eq_of_toNat_eq (hf.fetchWord_toNat.trans hw.symm)
  exact hf.step_instr hd

/-! ### Statuses -/

/-- The two statuses of a step that stays Running are told apart by WAIT after it. -/
theorem stepStatus_executed_waiting_iff (s t : State) :
    (stepStatus s t = .executed ↔ s.run = .running ∧ t.run ≠ .halted ∧ t.wait = false) ∧
    (stepStatus s t = .waiting ↔ s.run = .running ∧ t.run ≠ .halted ∧ t.wait = true) := by
  unfold stepStatus
  split
  · next hr => simp [hr]
  · next hr =>
    have hr : s.run = .running := Decidable.not_not.1 hr
    split
    · next ht => simp [ht]
    · next ht => cases hw : t.wait <;> simp [hr, ht]

/-- A poll ends the wait exactly when a key is newly down (44_keys_timers.md R266). -/
theorem State.keyWaitPoll_wait {s : State} (h : s.wait = true) :
    s.keyWaitPoll.wait = false ↔ ∃ k, s.pressed k = true := by
  obtain ⟨hn, hp⟩ | ⟨k, hk, hp⟩ := s.keyWaitPoll_cases
  · simp [hp, h, State.firstPressed_none.1 hn]
  · simpa [hp] using ⟨k, (State.firstPressed_some hk).1⟩

/-- An answer that is no halt has WAIT set exactly when the instruction is Fx0A (44_keys_timers.md R264). -/
theorem exec_wait {i : Instr} {s t : State} (hw : s.wait = false) (h : exec i s = .next t) (hr : t.run ≠ .halted) :
    t.wait = true ↔ ∃ x, i = .ldVxK x := by
  by_cases hi : ∃ x, i = .ldVxK x
  · obtain ⟨x, rfl⟩ := hi
    cases h
    simp
  · obtain ⟨e, -, rfl⟩ | hwith := exec_halts_or_within h
    · exact absurd rfl hr
    · have hk : (frame s i).keyWait = false := by
        cases i with
        | ldVxK x => exact absurd ⟨x, rfl⟩ hi
        | _ => rfl
      simp [hi, hwith.wait hk, hw]

/-- Settles O12: only a poll and an executed instruction end Running without a halt, and WAIT after them tells which
status the step has. -/
theorem executedAndWaitingMeanWhatTheySay : Obligations.ExecutedAndWaitingMeanWhatTheySay := by
  intro s t h
  obtain ⟨hexecuted, hwaiting⟩ := stepStatus_executed_waiting_iff s t
  rw [hexecuted, hwaiting]
  obtain ⟨hr, he⟩ | ⟨-, hw, he⟩ | ⟨-, -, -, he⟩ | ⟨-, -, -, -, he⟩ | ⟨-, w, -, he⟩ | ⟨hf, i, hd, he⟩ :=
    step_cases s
  case inr.inr.inr.inr.inr =>
    have hx := he.symm.trans h
    constructor
    · rintro ⟨-, hrun, hwait⟩
      have hi := mt (exec_wait (s := s.advancePc) hf.notWait hx hrun).2 (by simp [hwait])
      exact .inr ⟨hf, i, hd, fun x hix => hi ⟨x, hix⟩, hx⟩
    · rintro ⟨-, hrun, hwait⟩
      obtain ⟨x, rfl⟩ := (exec_wait (s := s.advancePc) hf.notWait hx hrun).1 hwait
      exact .inr ⟨hf, x, hd, hx⟩
  all_goals cases he.symm.trans h
  case inl => exact ⟨fun ⟨hrun, _⟩ => absurd hrun hr, fun ⟨hrun, _⟩ => absurd hrun hr⟩
  case inr.inl =>
    constructor
    · rintro ⟨-, -, hwait⟩
      exact .inl ⟨hw, (State.keyWaitPoll_wait hw).1 hwait, rfl⟩
    · rintro ⟨-, -, hwait⟩
      have hk := mt (State.keyWaitPoll_wait hw).2 (by simp [hwait])
      exact .inl ⟨hw, by simpa using hk, rfl⟩
  all_goals exact ⟨fun ⟨_, hrun, _⟩ => absurd rfl hrun, fun ⟨_, hrun, _⟩ => absurd rfl hrun⟩

/-! ### A placed word (log entry 8) -/

theorem State.placeAddress_le (s : State) : s.placeAddress.toNat + 1 ≤ 0xFFF := by
  unfold State.placeAddress
  split
  · decide
  · next h => omega

@[simp] theorem State.placeWord_pc (s : State) (w : Word) : (s.placeWord w).pc = s.placeAddress := rfl

/-- PROG_LEN is kept where the image already covers the word, else the word is the image's last. -/
theorem State.placeWord_inImage (s : State) (w : Word) :
    s.placeAddress.toNat + 2 ≤ Config.entry + (s.placeWord w).progLen.toNat := by
  have hle := s.placeAddress_le
  have hentry : Config.entry = 0x200 := rfl
  simp only [State.placeWord, State.setWait_progLen, State.setHaltWord_progLen, State.setHaltReason_progLen,
    State.setRun_progLen, State.setProgLen_progLen]
  split
  · assumption
  · rw [BitVec.toNat_ofNat]
    omega

theorem State.placeWord_fetches (s : State) (w : Word) : (s.placeWord w).Fetches where
  running := rfl
  notWait := rfl
  inBounds := s.placeAddress_le
  inImage := s.placeWord_inImage w

theorem State.readMem_placeWord {s : State} (hm : s.mem.wf = true) (w : Word) (b : Addr) :
    (s.placeWord w).readMem b =
      if b = BitVec.ofNat 12 (s.placeAddress.toNat + 1) then lowByte w
      else if b = BitVec.ofNat 12 s.placeAddress.toNat then highByte w else s.readMem b := by
  rw [← State.readMem_writeMem hm, ← State.readMem_writeMem (State.writeMem_wf hm _ _)]
  rfl

theorem State.placeWord_fetchWord {s : State} (hm : s.mem.wf = true) (w : Word) : (s.placeWord w).fetchWord = w := by
  have hne : BitVec.ofNat 12 s.placeAddress.toNat ≠ BitVec.ofNat 12 (s.placeAddress.toNat + 1) := by
    have hle := s.placeAddress_le
    rw [Ne, ← BitVec.toNat_inj, BitVec.toNat_ofNat, BitVec.toNat_ofNat]
    omega
  rw [State.fetchWord, State.placeWord_pc, State.readMem_placeWord hm, State.readMem_placeWord hm, if_neg hne,
    if_pos rfl, if_pos rfl, wordOfBytes_split]

theorem State.withFetchWord_eq (s : State) (w : Word) : s.withFetchWord 16 w.toNat = s.placeWord w := by
  rw [State.withFetchWord, Nat.mod_eq_of_lt w.isLt, BitVec.ofNat_toNat, BitVec.setWidth_eq]

/-- Settles O59: the placed state fetches, and the word it fetches is the placed one. -/
theorem placedWordIsRunNext : Obligations.PlacedWordIsRunNext := by
  intro s w i hm hd
  rw [State.withFetchWord_eq]
  have hf : (s.placeWord w).Fetches := s.placeWord_fetches w
  exact ⟨hf, hf.step_instr ((State.placeWord_fetchWord hm w).symm ▸ hd)⟩

end Sys2Proof.Machine

namespace Sys2Proof

theorem Params.depth_le (p : Params) : p.depth ≤ 32 := by
  unfold Params.depth
  cases p.stackDepth <;> decide

end Sys2Proof

namespace Sys2Proof.Machine

/-! ### Jumps and skips (40_flow.md R151, R153 to R157) -/

theorem addressOperand_toNat (nnn : Addr) : (addressOperand nnn).toNat = nnn.toNat := by
  unfold addressOperand
  bv_omega

/-- The sum of Bnnn never wraps: it is at most 0xFFF + 0xFF (40_flow.md R157). -/
theorem indexedTarget_toNat (nnn : Addr) (v0 : Byte) : (indexedTarget nnn v0).toNat = nnn.toNat + v0.toNat := by
  unfold indexedTarget
  bv_omega

/-- Settles O15: both jumps write PC alone. -/
theorem jumpsSetThePc : Obligations.JumpsSetThePc := fun nnn s =>
  ⟨⟨_, rfl, .setPc _, addressOperand_toNat nnn⟩, ⟨_, rfl, .setPc _, indexedTarget_toNat nnn (s.readV 0)⟩⟩

/-- Settles O16: each of the four is a skip on its own comparison. -/
theorem registerSkipsCompareAndSkip : Obligations.RegisterSkipsCompareAndSkip := by
  intro x y nn s
  refine ⟨⟨_, rfl, .skipIf (s.readV x == nn), ?_⟩, ⟨_, rfl, .skipIf (s.readV x != nn), ?_⟩,
    ⟨_, rfl, .skipIf (s.readV x == s.readV y), ?_⟩, ⟨_, rfl, .skipIf (s.readV x != s.readV y), ?_⟩⟩
  all_goals simp [skipTarget]

/-! ### Call and return (40_flow.md R150, R152, R159) -/

/-- Settles O17: the push writes the entry SP named, and SP is below 32, so its increment does not wrap. -/
theorem callPushesOrOverflows : Obligations.CallPushesOrOverflows := by
  intro nnn s hlen
  obtain ⟨hfull, hc⟩ | ⟨hne, hk, hc⟩ | ⟨hne, hk, -⟩ := execCall_cases nnn s
  · exact ⟨fun hlt => absurd hfull (Nat.ne_of_lt hlt), fun _ => hc⟩
  · refine ⟨fun hlt => ⟨_, hc, ?_, List.getElem?_set_self hk, ?_, addressOperand_toNat nnn⟩,
      fun hfull => absurd hfull hne⟩
    · exact ((Within.setStack fun k hk => List.getElem?_set_ne (ne_of_beq_false hk).symm).trans
        (.setSp rfl _)).trans (.setPc _)
    · have hd := s.cfg.depth_le
      simp only [State.setPc_sp, State.setSp_sp]
      bv_omega
  · exact ⟨fun hlt => by omega, fun hfull => absurd hfull hne⟩

/-- Settles O18: an SP within the stack names an entry to pop. -/
theorem returnPopsOrUnderflows : Obligations.ReturnPopsOrUnderflows := by
  intro s
  obtain ⟨hz, hr⟩ | ⟨hne, r, hget, hr⟩ | ⟨hne, hget, -⟩ := execRet_cases s
  · exact ⟨fun hne => absurd hz hne, fun _ => hr⟩
  · refine ⟨fun _ _ => ⟨_, hr, (Within.setSp rfl _).trans (.setPc _), ?_, hget⟩, fun hz => absurd hz hne⟩
    simp only [State.setPc_sp, State.setSp_sp]
    bv_omega
  · have hout : s.stack.length ≤ (s.sp - 1).toNat := List.getElem?_eq_none_iff.1 hget
    exact ⟨fun _ hle => by bv_omega, fun hz => absurd hz hne⟩

/-- No step writes an entry of STACK below SP: the one write is CALL's, at SP. -/
theorem step_readStack_below {s t : State} (h : step s = .next t) {k : Nat} (hk : k < s.sp.toNat) :
    t.readStack k = s.readStack k := by
  obtain ⟨-, i, -, hx⟩ | ht := step_executes_or_keeps h
  · obtain ⟨e, -, rfl⟩ | hw := exec_halts_or_within hx
    · rfl
    · refine hw.stack k ?_
      cases i with
      | call nnn => exact beq_false_of_ne (Nat.ne_of_lt hk)
      | _ => rfl
  · rw [ht]
    rfl

theorem StepsAbove.le_sp {n : Nat} {s t : State} (h : StepsAbove n s t) : n ≤ t.sp.toNat := by
  cases h <;> assumption

/-- The entries below the level that SP never falls under stay as they are. -/
theorem StepsAbove.readStack_eq {n : Nat} {s t : State} (h : StepsAbove n s t) {k : Nat} (hk : k < n) :
    t.readStack k = s.readStack k := by
  induction h with
  | refl => rfl
  | tail hrun hstep _ ih => exact (step_readStack_below hstep (Nat.lt_of_lt_of_le hk hrun.le_sp)).trans ih

/-- Settles O19: the entry that the call pushed lies below SP on the whole way, so it is the one the return pops. -/
theorem returnComesBackToAfterTheCall : Obligations.ReturnComesBackToAfterTheCall := by
  intro s t u r nnn hs hf hd hdepth hcall hrun husp hfu hdu hret
  obtain ⟨_, hx, -, hpush, htsp, -⟩ := (callPushesOrOverflows nnn s.advancePc hs.stackLength).1 hdepth
  cases hx.symm.trans ((hf.step_instr hd).symm.trans hcall)
  simp only [State.advancePc_sp, State.advancePc_pc] at hpush htsp
  have hentry : u.readStack s.sp.toNat = some (s.pc + 2) := (hrun.readStack_eq (by omega)).trans hpush
  have hin : s.sp.toNat < u.stack.length := (List.getElem?_eq_some_iff.1 hentry).1
  have hsp : u.sp.toNat = s.sp.toNat + 1 := husp ▸ htsp
  have hne : u.sp ≠ 0 := fun h0 => by simp [h0] at hsp
  obtain ⟨_, hx, -, hrsp, hpop⟩ := (returnPopsOrUnderflows u.advancePc).1 hne (hsp ▸ hin)
  cases hx.symm.trans ((hfu.step_instr hdu).symm.trans hret)
  have hback : r.sp = s.sp := BitVec.eq_of_toNat_eq (by rw [hrsp, State.advancePc_sp, hsp, Nat.add_sub_cancel])
  exact ⟨Option.some.inj (hpop.symm.trans (hback ▸ hentry)), hback⟩

end Sys2Proof.Machine

namespace Sys2Proof.Machine

/-! ### Results and flags of the ALU (41_alu.md R180, R181) -/

theorem onlyReg_self (x : Reg) : onlyReg x x = true := beq_self_eq_true x

theorem regAndFlag_self (x : Reg) : regAndFlag x x = true := by simp [regAndFlag]

theorem regAndFlag_vf (x : Reg) : regAndFlag x vf = true := by simp [regAndFlag]

/-- The frame shared by the five instructions that write a result and a flag. -/
theorem Within.resultFlag (s : State) (x : Reg) (result flag : Byte) :
    Within { v := regAndFlag x } s (s.writeResultFlag x result flag) :=
  .writeResultFlag (regAndFlag_self x) (regAndFlag_vf x) result flag

/-- VF is written last, so it ends as the flag whatever the destination (41_alu.md R181). -/
theorem State.readV_writeResultFlag_vf (s : State) (x : Reg) (result flag : Byte) :
    (s.writeResultFlag x result flag).readV 15 = flag :=
  (s.readV_writeResultFlag x vf result flag).trans (if_pos rfl)

theorem State.readV_writeResultFlag_self (s : State) {x : Reg} (hx : x ≠ 15) (result flag : Byte) :
    (s.writeResultFlag x result flag).readV x = result := by
  rw [State.readV_writeResultFlag, if_neg (show x ≠ vf from hx), if_pos rfl]

theorem carryFlag_eq_ite (a b : Byte) : carryFlag a b = if a.toNat + b.toNat > 255 then 1 else 0 := by
  simp [carryFlag, boolByte]

theorem noBorrowFlag_eq_ite (a b : Byte) : noBorrowFlag a b = if a.toNat ≥ b.toNat then 1 else 0 := by
  simp [noBorrowFlag, boolByte]

theorem shiftedOutRight_toNat (a : Byte) : (shiftedOutRight a).toNat = a.toNat % 2 :=
  (BitVec.toNat_and a 1).trans (Nat.and_one_is_mod _)

theorem shiftedOutLeft_toNat (a : Byte) : (shiftedOutLeft a).toNat = a.toNat / 128 := by
  rw [shiftedOutLeft, BitVec.toNat_ushiftRight, Nat.shiftRight_eq_div_pow]

/-- A byte difference is the integer difference mod 256, in `0 .. 255`. -/
theorem toNat_byteSub_eq_emod (a b : Byte) : ((a - b).toNat : Int) = ((a.toNat : Int) - b.toNat) % 256 := by
  rw [BitVec.toNat_sub]
  omega

/-! ### Loads, immediate addition and logic (41_alu.md R182 to R187) -/

/-- Settles O20: each of the three is one write of Vx. -/
theorem loadsAndImmediateAddResult : Obligations.LoadsAndImmediateAddResult := fun x _ _ s =>
  ⟨⟨_, rfl, .writeV (onlyReg_self x) _, rfl, s.readV_writeV_self x _⟩,
    ⟨_, rfl, .writeV (onlyReg_self x) _, rfl, by rw [State.readV_writeV_self, BitVec.toNat_add]⟩,
    ⟨_, rfl, .writeV (onlyReg_self x) _, rfl, s.readV_writeV_self x _⟩⟩

/-- Settles O21: each of the three is one write of Vx, and its bits are those of the bitwise operation. -/
theorem logicResultsBitByBit : Obligations.LogicResultsBitByBit := fun x _ s =>
  ⟨⟨_, rfl, .writeV (onlyReg_self x) _, rfl, fun _ _ => by rw [State.readV_writeV_self, BitVec.getLsbD_or]⟩,
    ⟨_, rfl, .writeV (onlyReg_self x) _, rfl, fun _ _ => by rw [State.readV_writeV_self, BitVec.getLsbD_and]⟩,
    ⟨_, rfl, .writeV (onlyReg_self x) _, rfl, fun _ _ => by rw [State.readV_writeV_self, BitVec.getLsbD_xor]⟩⟩

/-! ### Results with a flag (41_alu.md R188 to R192) -/

/-- Settles O22: the byte sum to Vx, then the carry to VF. -/
theorem addRegistersWithCarry : Obligations.AddRegistersWithCarry := by
  intro x y s
  refine ⟨_, rfl, .resultFlag .., rfl, fun hx => ?_, ?_⟩
  · rw [State.readV_writeResultFlag_self s hx, BitVec.toNat_add]
  · rw [State.readV_writeResultFlag_vf, carryFlag_eq_ite]

/-- What writing the difference `a - b` and its flag leaves, for SUB and, with the operands exchanged, for SUBN. -/
theorem State.writeDifference (s : State) (x : Reg) (a b : Byte) :
    (x ≠ 15 → (((s.writeResultFlag x (a - b) (noBorrowFlag a b)).readV x).toNat : Int) =
      ((a.toNat : Int) - b.toNat) % 256) ∧
    (s.writeResultFlag x (a - b) (noBorrowFlag a b)).readV 15 = if a.toNat ≥ b.toNat then 1 else 0 := by
  refine ⟨fun hx => ?_, ?_⟩
  · rw [State.readV_writeResultFlag_self s hx, toNat_byteSub_eq_emod]
  · rw [State.readV_writeResultFlag_vf, noBorrowFlag_eq_ite]

/-- Settles O23: SUBN is SUB with the operands exchanged. -/
theorem subtractionsWithNoBorrow : Obligations.SubtractionsWithNoBorrow := fun x y s =>
  ⟨⟨_, rfl, .resultFlag .., rfl, s.writeDifference x (s.readV x) (s.readV y)⟩,
    ⟨_, rfl, .resultFlag .., rfl, s.writeDifference x (s.readV y) (s.readV x)⟩⟩

/-- Settles O24: the meanings of SHR and SHL do not mention y, so every y gives the same answer by computation. -/
theorem shiftsByOneIgnoringVy : Obligations.ShiftsByOneIgnoringVy := by
  intro x y s
  refine ⟨⟨_, rfl, .resultFlag .., rfl, fun hx => ?_, ?_, fun _ => rfl⟩,
    ⟨_, rfl, .resultFlag .., rfl, fun hx => ?_, ?_, fun _ => rfl⟩⟩
  · rw [State.readV_writeResultFlag_self s hx, BitVec.toNat_ushiftRight, Nat.shiftRight_eq_div_pow]
  · rw [State.readV_writeResultFlag_vf, shiftedOutRight_toNat]
  · rw [State.readV_writeResultFlag_self s hx, BitVec.toNat_shiftLeft, Nat.shiftLeft_eq]
  · rw [State.readV_writeResultFlag_vf, shiftedOutLeft_toNat]

/-! ### The random byte (41_alu.md R193) -/

@[simp] theorem State.readV_rndWith_self (s : State) (r : Byte) (x : Reg) (nn : Byte) :
    (s.rndWith r x nn).readV x = r &&& nn := s.readV_writeV_self x _

/-- Settles O25: the masked draw to Vx, then the counter; a bit clear in nn is clear in the conjunction. -/
theorem randomByteIsMasked : Obligations.RandomByteIsMasked := by
  intro x nn s
  have hv : ((s.rndWith (Config.randomByte s.draws) x nn).setDraws (s.draws + 1)).readV x =
      Config.randomByte s.draws &&& nn := by
    rw [State.readV_setDraws, State.readV_rndWith_self]
  refine ⟨_, rfl, (Within.writeV (onlyReg_self x) _).trans (.setDraws rfl _), rfl, hv, rfl, fun k _ hk => ?_⟩
  rw [hv, BitVec.getLsbD_and, hk, Bool.and_false]

end Sys2Proof.Machine

namespace Sys2Proof.Machine

/-! ### Frames of a run of bytes and of a run of registers (42_index_memory.md R220) -/

theorem Within.storeBytes {s : State} (hm : s.mem.wf = true) (bs : List Byte) :
    Within { mem := inRun s.idx bs.length } s (s.storeBytes s.idx 0 bs) := by
  rw [State.storeBytes_eq]
  refine .setMem fun a ha => State.readMem_storeBytes_other hm _ _ _ _ fun j hj => ?_
  rw [Nat.zero_add]
  exact inRun_eq_false.1 ha j hj

theorem Within.storeRegs {s : State} (hm : s.mem.wf = true) (n : Nat) :
    Within { mem := inRun s.idx n } s (s.storeRegs n) := by
  rw [State.storeRegs_eq]
  exact .setMem fun a ha => State.readMem_storeRegs_other hm n a (inRun_eq_false.1 ha)

/-- Loading V0 .. Vx, both inclusive, leaves the registers above `x` alone. -/
theorem Within.loadRegs (s : State) (x : Reg) :
    Within { v := fun r => decide (r ≤ x) } s (s.loadRegs (x.val + 1)) := by
  rw [State.loadRegs_eq]
  refine .setV fun r hr => ?_
  have hxr : x.val < r.val := Fin.not_le.1 (of_decide_eq_false hr)
  exact (State.readV_loadRegs s _ (by omega) r).trans (if_neg (by omega))

/-! ### Runs of registers (42_index_memory.md R225, R226) -/

/-- Settles O28: the k-th byte of the run is Vk, for every k up to x. -/
theorem registersAreStored : Obligations.RegistersAreStored := by
  intro x s hm
  refine ⟨_, rfl, .storeRegs hm _, s.storeRegs_pc _, fun k hk => ?_⟩
  have hstored := State.readMem_storeRegs hm (x.val + 1) (by omega) k.val (Nat.lt_succ_of_le hk)
  rwa [regOfNat_val] at hstored

/-- Settles O29: Vk is the k-th byte of the run, for every k up to x. -/
theorem registersAreLoaded : Obligations.RegistersAreLoaded := fun x s =>
  ⟨_, rfl, .loadRegs s x, s.loadRegs_pc _, fun k hk =>
    (s.readV_loadRegs (x.val + 1) (by omega) k).trans (if_pos (Nat.lt_succ_of_le hk))⟩

/-- Settles O30: the load reads the very bytes that the store wrote, since memory and I are the same. -/
theorem savedRegistersAreRestored : Obligations.SavedRegistersAreRestored := by
  intro x s t u hm hstore hmem hidx
  obtain ⟨_, hx, -, -, hstored⟩ := registersAreStored x s hm
  cases hx.symm.trans hstore
  obtain ⟨r, hload, -, -, hloaded⟩ := registersAreLoaded x u
  refine ⟨r, hload, fun k hk => ?_⟩
  rw [hloaded k hk, State.readMem_congr hmem, hidx, hstored k hk]

/-! ### The index register (42_index_memory.md R221 to R223) -/

theorem indexSum_toNat (i : Word) (a : Byte) : (indexSum i a).toNat = (i.toNat + a.toNat) % 0x10000 :=
  BitVec.toNat_ofNat ..

/-- The glyph of every byte lies below 2^16: its address is at most 0x050 + 5 * 0xFF. -/
theorem glyphAddress_toNat (a : Byte) : (glyphAddress a).toNat = 0x050 + a.toNat * 5 := by
  rw [glyphAddress, Config.fontBase, BitVec.toNat_ofNat]
  omega

theorem indexOverflowFlag_eq_ite (i : Word) (a : Byte) :
    indexOverflowFlag i a = if i.toNat + a.toNat > 0xFFF then 1 else 0 := by
  simp [indexOverflowFlag, boolByte]

theorem exec_addIVx_of_not_setsVf {s : State} (h : s.cfg.fx1eSetsVf = false) (x : Reg) :
    exec (.addIVx x) s = .next (s.setIdx (indexSum s.idx (s.readV x))) := by
  simp [exec, execAddIVx, h]

theorem exec_addIVx_of_setsVf {s : State} (h : s.cfg.fx1eSetsVf = true) (x : Reg) :
    exec (.addIVx x) s = .next ((s.setIdx (indexSum s.idx (s.readV x))).writeV vf
      (indexOverflowFlag s.idx (s.readV x))) := by
  simp [exec, execAddIVx, h]

/-- Settles O26: each is one write of I; ADD_I_VX writes VF after it where the parameter says so. -/
theorem indexRegisterResults : Obligations.IndexRegisterResults := by
  intro nnn x s
  refine ⟨⟨_, rfl, .setIdx rfl _, rfl, addressOperand_toNat nnn⟩, ?_,
    ⟨_, rfl, .setIdx rfl _, rfl, glyphAddress_toNat (s.readV x)⟩⟩
  cases hvf : s.cfg.fx1eSetsVf with
  | false => exact ⟨_, exec_addIVx_of_not_setsVf hvf x, .setIdx rfl _, rfl, indexSum_toNat .., rfl⟩
  | true =>
    have hfoot : (footprint s (.addIVx x)).v vf = true := by simp [footprint, hvf]
    exact ⟨_, exec_addIVx_of_setsVf hvf x, (Within.setIdx rfl _).trans (.writeV hfoot _), rfl, indexSum_toNat ..,
      (State.readV_writeV_self ..).trans (indexOverflowFlag_eq_ite ..)⟩

/-! ### Decimal digits (42_index_memory.md R224) -/

/-- After `LD B, Vx` the k-th byte of the run is the k-th of the three decimal digits of Vx, the hundreds first. -/
theorem readMem_ldBVx_digit {s t : State} (hm : s.mem.wf = true) {x : Reg} (hx : exec (.ldBVx x) s = .next t) {k : Nat}
    (hk : k < 3) : (t.readMem (dataAddr s.idx k)).toNat = (s.readV x).toNat / 10 ^ (2 - k) % 10 := by
  rw [State.HoldsAfterStore.readMem_ldBVx hm hx (.inl ⟨k, hk, rfl, rfl⟩), BitVec.toNat_ofNat]
  omega

/-- Settles O27: the hundreds need no reduction mod 10, since Vx is below 1000. -/
theorem decimalDigitsAreStored : Obligations.DecimalDigitsAreStored := by
  intro x s hm
  have hdigit (k : Nat) (hk : k < 3) := readMem_ldBVx_digit hm (x := x) rfl hk
  have hhundreds : (s.readV x).toNat / 100 % 10 = (s.readV x).toNat / 100 := by omega
  refine ⟨_, rfl, .storeBytes hm [hundredsDigit _, tensDigit _, onesDigit _], s.storeBytes_pc ..,
    (hdigit 0 (by decide)).trans hhundreds, hdigit 1 (by decide), (hdigit 2 (by decide)).trans ?_⟩
  rw [Nat.sub_self, Nat.pow_zero, Nat.div_one]

end Sys2Proof.Machine

namespace Sys2Proof.Machine

/-! ### Clearing and drawing (43_display.md) -/

/-- Settles O33: one write of DISP, by the blank display. -/
theorem clearTurnsEveryPixelOff : Obligations.ClearTurnsEveryPixelOff := fun _ =>
  ⟨_, rfl, .setDisp rfl _, rfl, Display.get_blank⟩

/-- Drawing leads from `a` to `b` by inverting once each pixel of `C`; it collides where one of them was on
(43_display.md R242, R247). -/
structure Inverts (C : Fin 64 → Fin 32 → Prop) (a b : DrawState) : Prop where
  covered   : ∀ {px py}, C px py → b.1.get px py = !a.1.get px py
  uncovered : ∀ {px py}, ¬ C px py → b.1.get px py = a.1.get px py
  collision : b.2 = true ↔ a.2 = true ∨ ∃ px py, C px py ∧ a.1.get px py = true

theorem Inverts.refl (a : DrawState) : Inverts (fun _ _ => False) a a where
  covered := False.elim
  uncovered _ := rfl
  collision := by simp

/-- Two draws that share no pixel are one draw of both: the second meets its pixels as the first found them. -/
theorem Inverts.trans {C D : Fin 64 → Fin 32 → Prop} {a b c : DrawState} (h : Inverts C a b) (h' : Inverts D b c)
    (hdisj : ∀ px py, C px py → ¬ D px py) : Inverts (fun px py => C px py ∨ D px py) a c where
  covered := by
    rintro px py (hC | hD)
    · rw [h'.uncovered (hdisj px py hC), h.covered hC]
    · rw [h'.covered hD, h.uncovered fun hC => hdisj px py hC hD]
  uncovered hn := (h'.uncovered fun hD => hn (.inr hD)).trans (h.uncovered fun hC => hn (.inl hC))
  collision := by
    have hD : ∀ px py, (D px py ∧ b.1.get px py = true ↔ D px py ∧ a.1.get px py = true) := fun px py =>
      and_congr_right fun hD => by rw [h.uncovered fun hC => hdisj px py hC hD]
    simp only [h'.collision, h.collision, hD, or_and_right, exists_or, or_assoc]

theorem Inverts.congr {C D : Fin 64 → Fin 32 → Prop} {a b : DrawState} (h : Inverts C a b)
    (hCD : ∀ px py, C px py ↔ D px py) : Inverts D a b := by
  obtain rfl : C = D := funext fun px => funext fun py => propext (hCD px py)
  exact h

/-! ### Where a sprite's bits fall (43_display.md R244 to R246) -/

theorem place_eq_some_iff {edge : DrawEdge} {px0 py0 r col : Nat} {px : Fin 64} {py : Fin 32} :
    place edge (px0 + col) (py0 + r) = some (px, py) ↔ landsOn edge px0 py0 r col px py := by
  cases edge with
  | clip => exact place_clip
  | wrap => exact place_wrap

/-- No two bits of a sprite fall on one pixel, since it is narrower and lower than the screen. -/
theorem landsOn_unique {edge : DrawEdge} {px0 py0 r r' col col' : Nat} {px : Fin 64} {py : Fin 32}
    (h : landsOn edge px0 py0 r col px py) (h' : landsOn edge px0 py0 r' col' px py)
    (hr : r < 32) (hr' : r' < 32) (hcol : col < 64) (hcol' : col' < 64) : r = r' ∧ col = col' := by
  cases edge with
  | clip | wrap =>
    simp only [landsOn] at h h'
    omega

/-- What `covers` asks of one row, of which the first `cols` columns are drawn. -/
def rowCovers (edge : DrawEdge) (px0 py0 : Nat) (b : Byte) (r cols : Nat) (px : Fin 64) (py : Fin 32) : Prop :=
  ∃ col < cols, b.getLsbD (7 - col) = true ∧ landsOn edge px0 py0 r col px py

theorem covers_succ_iff {edge : DrawEdge} {px0 py0 : Nat} {sprite : Nat → Byte} {n : Nat} {px : Fin 64} {py : Fin 32} :
    covers edge px0 py0 sprite (n + 1) px py ↔
      covers edge px0 py0 sprite n px py ∨ rowCovers edge px0 py0 (sprite n) n 8 px py :=
  Nat.exists_lt_succ_right

theorem rowCovers_succ_iff {edge : DrawEdge} {px0 py0 : Nat} {b : Byte} {r cols : Nat} {px : Fin 64} {py : Fin 32} :
    rowCovers edge px0 py0 b r (cols + 1) px py ↔
      rowCovers edge px0 py0 b r cols px py ∨
        (b.getLsbD (7 - cols) = true ∧ landsOn edge px0 py0 r cols px py) :=
  Nat.exists_lt_succ_right

/-! ### The drawing loop inverts what the sprite covers (43_display.md R242) -/

theorem drawBit_inverts (edge : DrawEdge) (px0 py0 r col : Nat) (bit : Bool) (a : DrawState) :
    Inverts (fun px py => bit = true ∧ landsOn edge px0 py0 r col px py) a
      (drawBit edge (px0 + col) (py0 + r) bit a) where
  covered := fun ⟨hbit, hl⟩ => by simp [drawBit_pixel, hbit, place_eq_some_iff.2 hl]
  uncovered {px py} hn := by
    have hmiss : (bit && decide (place edge (px0 + col) (py0 + r) = some (px, py))) = false := by
      simpa [place_eq_some_iff] using hn
    rw [drawBit_pixel, hmiss, Bool.xor_false]
  collision := by simp only [drawBit_collision, place_eq_some_iff, and_assoc, exists_and_left]

theorem drawRow_inverts (edge : DrawEdge) (px0 py0 r : Nat) (b : Byte) (a : DrawState) {cols : Nat} (hr : r < 32)
    (hcols : cols ≤ 64) :
    Inverts (rowCovers edge px0 py0 b r cols) a (drawRow edge px0 (py0 + r) b cols a) := by
  induction cols with
  | zero => exact (Inverts.refl a).congr fun px py => by simp [rowCovers]
  | succ cols ih =>
    refine ((ih (by omega)).trans (drawBit_inverts edge px0 py0 r cols _ _) ?_).congr fun _ _ =>
      rowCovers_succ_iff.symm
    rintro px py ⟨col, hcol, -, hl⟩ ⟨-, hl'⟩
    obtain ⟨-, heq⟩ := landsOn_unique hl hl' hr hr (by omega) (by omega)
    omega

theorem drawRows_inverts (edge : DrawEdge) (px0 py0 : Nat) (sprite : Nat → Byte) (a : DrawState) {n : Nat}
    (hn : n ≤ 32) : Inverts (covers edge px0 py0 sprite n) a (drawRows edge px0 py0 sprite n a) := by
  induction n with
  | zero => exact (Inverts.refl a).congr fun px py => by simp [covers]
  | succ n ih =>
    refine ((ih (by omega)).trans (drawRow_inverts edge px0 py0 n (sprite n) _ (by omega) (by decide)) ?_).congr
      fun _ _ => covers_succ_iff.symm
    rintro px py ⟨r, hr, col, hcol, -, hl⟩ ⟨col', hcol', -, hl'⟩
    obtain ⟨heq, -⟩ := landsOn_unique hl hl' (by omega) (by omega) (by omega) (by omega)
    omega

/-- DRW writes the inverted display, then the collision to VF (43_display.md R242, R247). -/
theorem exec_drw (x y : Reg) (n : Nibble) (s : State) : ∃ d : DrawState,
    Inverts (s.drawCovers x y n) (s.disp, false) d ∧
      exec (.drw x y n) s = .next ((s.setDisp d.1).writeV vf (collisionFlag d.2)) :=
  have hn : n.toNat ≤ 32 := by omega
  ⟨_, drawRows_inverts _ _ _ _ _ hn, rfl⟩

/-- Settles O34: the loop inverts each covered pixel once, since no two bits of the sprite fall on one pixel. -/
theorem drawInvertsExactlyTheCoveredPixels : Obligations.DrawInvertsExactlyTheCoveredPixels := by
  intro x y n s
  obtain ⟨d, hd, hx⟩ := exec_drw x y n s
  have hflag : ((s.setDisp d.1).writeV vf (collisionFlag d.2)).readV 15 = if d.2 then 1 else 0 :=
    State.readV_writeV_self ..
  have hcoll : d.2 = true ↔ ∃ px py, s.drawCovers x y n px py ∧ s.pixel px py = true :=
    hd.collision.trans (or_iff_right Bool.false_ne_true)
  refine ⟨_, hx, (Within.setDisp rfl _).trans (.writeV (onlyReg_self vf) _), rfl, fun _ _ => hd.covered,
    fun _ _ => hd.uncovered, fun h => ?_, fun h => ?_⟩
  · rw [hflag, if_pos (hcoll.2 h)]
  · rw [hflag, if_neg (mt hcoll.1 h)]

/-! ### Drawing twice (43_display.md R248) -/

/-- What a sprite covers depends on the parameters, on the memory it is read from and on the two coordinates. -/
theorem State.drawCovers_congr {s t : State} {x y : Reg} (hcfg : t.cfg = s.cfg) (hmem : ∀ a, t.readMem a = s.readMem a)
    (hidx : t.idx = s.idx) (hx : t.readV x = s.readV x) (hy : t.readV y = s.readV y) (n : Nibble) :
    t.drawCovers x y n = s.drawCovers x y n := by
  unfold State.drawCovers
  simp only [hcfg, hmem, hidx, hx, hy]

/-- Settles O35: the second draw inverts the very pixels the first inverted, so it meets on what the first met off. -/
theorem drawingTwiceRestoresTheDisplay : Obligations.DrawingTwiceRestoresTheDisplay := by
  intro x y n s t t' h hdisp hmem hidx hcfg hVx hVy
  obtain ⟨_, hx, hw, -, hcov, hunc, -, hzero⟩ := drawInvertsExactlyTheCoveredPixels x y n s
  cases hx.symm.trans h
  obtain ⟨u, hu, -, -, hcov', hunc', hone', hzero'⟩ := drawInvertsExactlyTheCoveredPixels x y n t'
  have hpix (px py) : t'.pixel px py = t.pixel px py := by rw [State.pixel, hdisp]; rfl
  rw [State.drawCovers_congr (hcfg.trans hw.cfg) (fun a => (State.readMem_congr hmem a).trans (hw.mem a rfl))
    (hidx.trans (hw.idx rfl)) hVx hVy n] at hcov' hunc' hone' hzero'
  refine ⟨u, hu, Display.ext_get fun px py => ?_, ?_, fun hon => hzero' ?_, fun hnone =>
    ⟨hzero fun ⟨_, _, hc, _⟩ => hnone _ _ hc, hzero' fun ⟨_, _, hc, _⟩ => hnone _ _ hc⟩⟩
  · by_cases hc : s.drawCovers x y n px py
    · exact (hcov' px py hc).trans (by rw [hpix, hcov px py hc, Bool.not_not]; rfl)
    · exact (hunc' px py hc).trans (by rw [hpix, hunc px py hc]; rfl)
  · rintro ⟨px, py, hc, hoff⟩
    exact hone' ⟨px, py, hc, by rw [hpix, hcov px py hc, hoff, Bool.not_false]⟩
  · rintro ⟨px, py, hc, hlit⟩
    rw [hpix, hcov px py hc, hon px py hc] at hlit
    cases hlit

/-- The display with one pixel on, and I at the font's byte 0x20, which covers that pixel alone from the corner. -/
def oneLitPixel : State := (State.reset.setIdx 0x055).setDisp (Display.blank.flip 2 0)

/-- Refutes O36: the first draw turns the one covered pixel off, so the second turns it on and reports 0. -/
theorem not_secondDrawAlwaysReportsACollision : ¬ Obligations.SecondDrawAlwaysReportsACollision := by
  intro h
  have hcov : oneLitPixel.drawCovers 0 0 1 2 0 := ⟨0, by decide, 2, by decide, by decide, by decide, by decide⟩
  exact absurd (h 0 0 1 oneLitPixel _ _ (by decide) (by decide) rfl rfl ⟨2, 0, hcov⟩) (by decide)

end Sys2Proof.Machine

namespace Sys2Proof

theorem decode_eq_cls {w : Word} (h : decode w = .instr .cls) : w = 0x00E0 := by
  have hop : (opField w).toNat = 0 := opField_of_decode h
  have hw : decodeWhole w = .instr .cls := by simpa only [decode, hop] using h
  obtain ⟨hw, -⟩ | ⟨-, hi⟩ := decodeWhole_eq_instr hw
  · exact hw
  · cases hi

theorem decode_eq_drw {w : Word} {x y : Reg} {n : Nibble} (h : decode w = .instr (.drw x y n)) :
    w.toNat / 0x1000 = 0xD :=
  (opField_toNat w).symm.trans (opField_of_decode h)

end Sys2Proof

namespace Sys2Proof.Machine

/-! ### What writes the display (43_display.md R240) -/

theorem exec_keeps_disp {i : Instr} {s t : State} (hc : i ≠ .cls) (hd : ∀ x y n, i ≠ .drw x y n)
    (h : exec i s = .next t) : t.disp = s.disp := by
  obtain ⟨e, -, rfl⟩ | hw := exec_halts_or_within h
  · rfl
  · refine hw.disp ?_
    cases i with
    | cls => exact absurd rfl hc
    | drw => exact absurd rfl (hd _ _ _)
    | _ => rfl

/-- A step that fetches neither 00E0 nor Dxyn keeps the display. -/
theorem step_keeps_disp_or_draws {s t : State} (h : step s = .next t) :
    t.disp = s.disp ∨ s.Fetches ∧ (s.fetchWord = 0x00E0 ∨ s.fetchWord.toNat / 0x1000 = 0xD) := by
  obtain ⟨hf, i, hi, hx⟩ | ht := step_executes_or_keeps h
  · by_cases hc : i = .cls
    · exact .inr ⟨hf, .inl (decode_eq_cls (hc ▸ hi))⟩
    by_cases hd : ∃ x y n, i = .drw x y n
    · obtain ⟨x, y, n, rfl⟩ := hd
      exact .inr ⟨hf, .inr (decode_eq_drw hi)⟩
    · exact .inl ((exec_keeps_disp hc (fun x y n hi => hd ⟨x, y, n, hi⟩) hx).trans s.advancePc_disp)
  · exact .inl (by rw [ht])

@[simp] theorem State.tick_disp (s : State) : s.tick.disp = s.disp := by rw [State.tick_eq]; rfl

@[simp] theorem State.loadImage_disp (s : State) (bytes : List Byte) : (s.loadImage bytes).disp = s.disp := by
  rw [State.loadImage_eq]; rfl

@[simp] theorem State.setRunState_disp (s : State) (r : RunRequest) : (s.setRunState r).disp = s.disp := by
  obtain ⟨-, h⟩ | ⟨-, h⟩ := s.setRunState_cases r <;> rw [h]
  rfl

theorem Session.load_keeps_disp {z z' : Session} {bytes : List Byte} {r : Response} (h : z.load bytes = .next (z', r)) :
    z'.state.disp = z.state.disp := by
  unfold Session.load at h
  split at h
  · cases h
  · split at h <;> cases h
    · exact z.state.loadImage_disp bytes
    · rfl

theorem Session.step_eq_next {z z' : Session} {r : Response} (h : z.step = .next (z', r)) :
    Machine.step z.state = .next z'.state := by
  unfold Session.step at h
  split at h <;> cases h
  assumption

theorem Session.setRunState_keeps_disp {z z' : Session} {q : RunState} {r : Response}
    (h : z.setRunState q = .next (z', r)) : z'.state.disp = z.state.disp := by
  cases q <;> cases h <;> exact z.state.setRunState_disp _

/-- Settles O56: every event but a step keeps the display, and a step that changes it fetched one of the two. -/
theorem onlyClearAndDrawWriteTheDisplay : Obligations.OnlyClearAndDrawWriteTheDisplay := by
  intro z z' e r h hne
  cases e with
  | step => exact ⟨rfl, (step_keeps_disp_or_draws (Session.step_eq_next h)).resolve_left hne⟩
  | load bytes => exact absurd (Session.load_keeps_disp h) hne
  | tick => cases h; exact absurd z.state.tick_disp hne
  | setRunState q => exact absurd (Session.setRunState_keeps_disp h) hne
  | writeKeys keys => cases h; exact absurd rfl hne

end Sys2Proof.Machine

namespace Sys2Proof.Machine

/-! ### The key poll (44_keys_timers.md R265, R266) -/

theorem State.pressed_iff {s : State} {k : Key} : s.pressed k = true ↔ s.key[k] = true ∧ s.keySnap[k] = false := by
  simp [State.pressed]

/-- The key the poll takes is the lowest that is newly pressed, and there is but one such key. -/
theorem State.firstPressed_eq_some_iff {s : State} {k : Key} :
    s.firstPressed = some k ↔ s.pressed k = true ∧ ∀ j < k, s.pressed j = false := by
  refine ⟨State.firstPressed_some, fun ⟨hk, hlow⟩ => ?_⟩
  cases hf : s.firstPressed with
  | none => exact absurd hk (by simp [State.firstPressed_none.1 hf k])
  | some k' =>
    obtain ⟨hk', hlow'⟩ := State.firstPressed_some hf
    have hle : k ≤ k' := Fin.not_lt.1 fun hlt => by simp [hlow k' hlt] at hk'
    have hge : k' ≤ k := Fin.not_lt.1 fun hlt => by simp [hlow' k hlt] at hk
    rw [Fin.le_antisymm hge hle]

theorem State.keyWaitPoll_of_none {s : State} (h : ∀ k, s.pressed k = false) :
    s.keyWaitPoll = s.setKeySnap s.key := by
  rw [State.keyWaitPoll, State.firstPressed_none.2 h]

theorem State.keyWaitPoll_of_lowest {s : State} {k : Key} (hk : s.pressed k = true)
    (hlow : ∀ j < k, s.pressed j = false) :
    s.keyWaitPoll = ((s.writeV s.waitReg (keyByte k)).setWait false).setKeySnap s.key := by
  rw [State.keyWaitPoll, State.firstPressed_eq_some_iff.2 ⟨hk, hlow⟩]

theorem step_waiting {s : State} (hr : s.run = .running) (hw : s.wait = true) : step s = .next s.keyWaitPoll := by
  simp [step, hr, hw]

theorem keyByte_toNat (k : Key) : (keyByte k).toNat = k.val := by
  rw [keyByte, BitVec.toNat_ofNat]
  omega

/-- Settles O40: the poll's answer is fixed by the lowest newly pressed key, and WAIT after it gives the status. -/
theorem keyWaitPollTakesTheLowestNewKey : Obligations.KeyWaitPollTakesTheLowestNewKey := by
  intro s hr hw
  simp only [← State.pressed_iff, Bool.not_eq_true]
  rw [step_waiting hr hw]
  refine ⟨fun hnone => ?_, fun k hkey hsnap hlow => ?_⟩
  · rw [State.keyWaitPoll_of_none hnone]
    exact ⟨rfl, (stepStatus_executed_waiting_iff s _).2.2 ⟨hr, by simp [hr], hw⟩⟩
  · rw [State.keyWaitPoll_of_lowest (State.pressed_iff.2 ⟨hkey, hsnap⟩) hlow]
    exact ⟨_, rfl, (stepStatus_executed_waiting_iff s _).1.2 ⟨hr, by simp [hr], rfl⟩,
      (congrArg BitVec.toNat (s.readV_writeV_self _ _)).trans (keyByte_toNat k),
      fun r hne => State.readV_writeV_ne s _ hne, rfl⟩

/-! ### Key skips (44_keys_timers.md R260 to R262) -/

/-- The key number is the low nibble of the register (44_keys_timers.md R260). -/
theorem keyIndex_val (a : Byte) : (keyIndex a).val = a.toNat % 16 := by
  rw [keyIndex, BitVec.toNat_and]
  exact (Nat.mod_eq_of_lt (Nat.and_lt_two_pow (n := 4) _ (by decide))).trans (Nat.and_two_pow_sub_one_eq_mod _ 4)

theorem State.skipIf_not_pc (s : State) (c : Bool) : (s.skipIf (!c)).pc = if c then s.pc else skipTarget s.pc := by
  cases c <;> rfl

/-- Settles O37: the tested key is k, and SKNP negates the test. -/
theorem keySkipsTestTheLevel : Obligations.KeySkipsTestTheLevel := by
  intro x k s hk
  obtain rfl : keyIndex (s.readV x) = k := Fin.ext ((keyIndex_val _).trans hk.symm)
  exact ⟨⟨_, rfl, .skipIf _, s.skipIf_pc _⟩, ⟨_, rfl, .skipIf _, s.skipIf_not_pc _⟩⟩

/-! ### Timer instructions and the key wait (44_keys_timers.md R263, R264, R268, R269) -/

theorem State.soundOn_iff {s : State} : s.soundOn = true ↔ s.st ≠ 0 := by
  rw [State.soundOn, decide_eq_true_iff]
  bv_omega

/-- Settles O38: each of the three is one move between Vx and a timer. -/
theorem timerInstructionResults : Obligations.TimerInstructionResults := fun x s =>
  ⟨⟨_, rfl, .writeV (onlyReg_self x) _, rfl, s.readV_writeV_self x _⟩,
    ⟨_, rfl, .setDt rfl _, rfl, rfl⟩,
    ⟨_, rfl, .setSt rfl _, rfl, rfl, State.soundOn_iff⟩⟩

/-- Settles O39: RUN is not written and WAIT is set, so the step's status is Waiting. -/
theorem keyWaitBegins : Obligations.KeyWaitBegins := fun x s =>
  ⟨_, rfl, .beginKeyWait rfl true x s.key, rfl, rfl, rfl, rfl, fun hr =>
    (stepStatus_executed_waiting_iff s _).2.2 ⟨hr, by simp [hr], rfl⟩⟩

end Sys2Proof.Machine

namespace Sys2Proof

theorem decode_of_op_two {w : Word} (h : w.toNat / 0x1000 = 2) : decode w = .instr (.call (nnnField w)) := by
  have hop : (opField w).toNat = 2 := (opField_toNat w).trans h
  simp only [decode, hop]

end Sys2Proof

namespace Sys2Proof.Machine

/-! ### What halts a step (60_exceptions.md R301 to R303) -/

/-- RET on an empty stack and CALL on a full one halt, and no other answer of `exec` changes RUN. -/
theorem exec_halts_or_keeps_run {i : Instr} {s t : State} (h : exec i s = .next t) :
    (i = .ret ∧ s.sp = 0 ∧ t = s.raiseHalt .stackUnderflow) ∨
    ((∃ nnn, i = .call nnn) ∧ s.sp.toNat = s.cfg.depth ∧ t = s.raiseHalt .stackOverflow) ∨ t.run = s.run := by
  cases i with
  | ret =>
    obtain ⟨hz, hr⟩ | ⟨-, r, -, hr⟩ | ⟨-, -, hr⟩ := execRet_cases s <;> cases hr.symm.trans h
    · exact .inl ⟨rfl, hz, rfl⟩
    · exact .inr (.inr rfl)
  | call nnn =>
    obtain ⟨hfull, hc⟩ | ⟨-, -, hc⟩ | ⟨-, -, hc⟩ := execCall_cases nnn s <;> cases hc.symm.trans h
    · exact .inr (.inl ⟨⟨nnn, rfl⟩, hfull, rfl⟩)
    · exact .inr (.inr rfl)
  | addIVx x =>
    cases h
    refine .inr (.inr ?_)
    split <;> rfl
  | rnd => cases h; exact .inr (.inr rfl)
  | _ => cases h; exact .inr (.inr (by simp))

theorem State.keyWaitPoll_run (s : State) : s.keyWaitPoll.run = s.run := by
  obtain ⟨-, hp⟩ | ⟨k, -, hp⟩ := s.keyWaitPoll_cases <;> rw [hp] <;> rfl

/-- A step keeps RUN or raises a runtime error: a failed fetch before the advance of PC, any other error after it. -/
theorem step_keeps_run_or_halts {s t : State} (h : step s = .next t) :
    t.run = s.run ∨ s.run = .running ∧ ∃ e : RuntimeError,
      ((e.code = 4 ∨ e.code = 5) ∧ t = s.raiseHalt e ∨ ¬(e.code = 4 ∨ e.code = 5) ∧ t = s.advancePc.raiseHalt e) := by
  obtain ⟨-, he⟩ | ⟨-, -, he⟩ | ⟨hr, -, -, he⟩ | ⟨hr, -, -, -, he⟩ | ⟨hf, w, -, he⟩ | ⟨hf, i, -, he⟩ := step_cases s
  case inr.inr.inr.inr.inr =>
    obtain ⟨-, -, ht⟩ | ⟨-, -, ht⟩ | ht := exec_halts_or_keeps_run (he.symm.trans h)
    · exact .inr ⟨hf.running, _, .inr ⟨by decide, ht⟩⟩
    · exact .inr ⟨hf.running, _, .inr ⟨by decide, ht⟩⟩
    · exact .inl ht
  all_goals cases he.symm.trans h
  · exact .inl rfl
  · exact .inl s.keyWaitPoll_run
  · exact .inr ⟨hr, _, .inl ⟨.inl rfl, rfl⟩⟩
  · exact .inr ⟨hr, _, .inl ⟨.inr rfl, rfl⟩⟩
  · exact .inr ⟨hf.running, _, .inr ⟨by simp [RuntimeError.code], rfl⟩⟩

/-- Settles O10: a step that ends Halted raised an error, which writes the halt record alone, and the error's code
says whether PC had been advanced. -/
theorem runtimeErrorsArePrecise : Obligations.RuntimeErrorsArePrecise := by
  intro s t hr h ht
  obtain hrun | ⟨-, e, ⟨hcode, rfl⟩ | ⟨hcode, rfl⟩⟩ := step_keeps_run_or_halts h
  · rw [hrun, hr] at ht
    cases ht
  · exact ⟨rfl, (if_pos hcode).symm⟩
  · exact ⟨rfl, (if_neg hcode).symm⟩

/-- The stack bounds of the invariant rule out the model's own fault (10_state.md R42). -/
theorem State.Inv.exec_next {s : State} (h : s.Inv) (i : Instr) : ∃ t, Machine.exec i s = .next t := by
  have hlen := h.stackLength
  have hsp := h.spBound
  by_cases hr : i = .ret
  · subst hr
    obtain ⟨-, he⟩ | ⟨-, r, -, he⟩ | ⟨hne, hout, -⟩ := execRet_cases s
    · exact ⟨_, he⟩
    · exact ⟨_, he⟩
    · have hout : s.stack.length ≤ (s.sp - 1).toNat := List.getElem?_eq_none_iff.1 hout
      bv_omega
  by_cases hc : ∃ nnn, i = .call nnn
  · obtain ⟨nnn, rfl⟩ := hc
    obtain ⟨-, he⟩ | ⟨-, -, he⟩ | ⟨hne, hout, -⟩ := execCall_cases nnn s
    · exact ⟨_, he⟩
    · exact ⟨_, he⟩
    · omega
  · exact Machine.exec_next i s hr (not_exists.1 hc)

/-- Settles O13: of the cases of a step only an executed instruction can fault, and it does not. -/
theorem everyStepAnswersANextState : Obligations.EveryStepAnswersANextState := by
  intro s hs
  obtain ⟨-, he⟩ | ⟨-, -, he⟩ | ⟨-, -, -, he⟩ | ⟨-, -, -, -, he⟩ | ⟨-, w, -, he⟩ | ⟨hf, i, -, he⟩ := step_cases s
  case inr.inr.inr.inr.inr => exact he ▸ (hs.advancePc hf).exec_next i
  all_goals exact ⟨_, he⟩

/-- The halt record of a state that runs is empty (10_state.md R49). -/
theorem State.Inv.running_record {s : State} (h : s.Inv) (hr : s.run = .running) :
    s.run = .running ∧ s.haltReason = 0 ∧ s.haltWord = 0 := by
  have hz : s.haltReason = 0 := Decidable.not_not.1 (mt h.haltedIff.2 (by simp [hr]))
  exact ⟨hr, hz, h.haltWord (by simp [hz])⟩

theorem State.Fetches.step_call_full {s : State} (h : s.Fetches) (hw : s.fetchWord.toNat / 0x1000 = 2)
    (hsp : s.sp.toNat = s.cfg.depth) : step s = .next (s.advancePc.raiseHalt .stackOverflow) :=
  (h.step_instr (decode_of_op_two hw)).trans (if_pos hsp)

theorem State.Fetches.step_ret_empty {s : State} (h : s.Fetches) (hw : s.fetchWord = 0x00EE) (hsp : s.sp = 0) :
    step s = .next (s.advancePc.raiseHalt .stackUnderflow) :=
  have hd : decode s.fetchWord = .instr .ret := by rw [hw]; rfl
  (h.step_instr hd).trans (if_pos hsp)

/-- A step that runs a valid word and is neither a CALL on a full stack nor a RET on an empty one stays Running. -/
theorem State.Fetches.step_valid_run {s t : State} (h : s.Fetches) (hv : wordValid s.fetchWord = true)
    (hcall : ¬(s.fetchWord.toNat / 0x1000 = 2 ∧ s.sp.toNat = s.cfg.depth)) (hret : ¬(s.fetchWord = 0x00EE ∧ s.sp = 0))
    (hs : step s = .next t) : t.run = .running := by
  obtain ⟨i, hd⟩ := (wordValid_iff_decodes _).1 hv
  obtain ⟨rfl, hsp, -⟩ | ⟨⟨nnn, rfl⟩, hsp, -⟩ | ht := exec_halts_or_keeps_run ((h.step_instr hd).symm.trans hs)
  · exact absurd ⟨decode_eq_ret hd, hsp⟩ hret
  · exact absurd ⟨decode_eq_call hd, hsp⟩ hcall
  · exact ht.trans h.running

/-- Settles O11: in each case the step's answer is known, and where it stays Running the invariant empties the halt
record. -/
theorem haltCausesAndRecords : Obligations.HaltCausesAndRecords := by
  intro s hs
  obtain ⟨t, h⟩ := everyStepAnswersANextState s hs
  have ht : t.Inv := hs.step h
  have answer {u : State} (hu : step s = .next u) : t = u := by cases h.symm.trans hu; rfl
  refine ⟨t, h, fun hr => answer (step_not_running hr), fun hr hw => ht.running_record ?_, fun hr hw hb => ?_,
    fun hr hw hb he => ?_, fun hf hv => ?_, fun hf hc hsp => ?_, fun hf hw hsp => ?_,
    fun hf hv hcall hret => ht.running_record (hf.step_valid_run hv hcall hret h)⟩
  · rw [answer (step_waiting hr hw), s.keyWaitPoll_run, hr]
  · rw [answer ((fetchChecksHaltTheStep s hr hw).1 hb)]
    exact ⟨rfl, rfl, rfl, rfl⟩
  · rw [answer ((fetchChecksHaltTheStep s hr hw).2.1 hb he)]
    exact ⟨rfl, rfl, rfl, rfl⟩
  · rw [answer (invalidWordHaltsAfterTheAdvance s hf hv)]
    exact ⟨rfl, rfl, rfl, rfl⟩
  · rw [answer (hf.step_call_full hc hsp)]
    exact ⟨rfl, rfl, rfl, rfl⟩
  · rw [answer (hf.step_ret_empty hw hsp)]
    exact ⟨rfl, rfl, rfl, rfl⟩

/-! ### Timers (60_exceptions.md R320, R321) -/

@[simp] theorem State.tick_run (s : State) : s.tick.run = s.run := by rw [State.tick_eq]; rfl

/-- Settles O42, by the two cases of a tick. -/
theorem tickCountsBothTimersDown : Obligations.TickCountsBothTimersDown := by
  intro s
  refine ⟨s.tick_eq, ?_⟩
  obtain ⟨hr, hp, ht⟩ | ⟨hcounts, ht⟩ := s.tick_cases
  · exact ⟨fun hcounts => by simp [hr, hp] at hcounts, fun _ _ => ht⟩
  · refine ⟨fun _ => ?_, fun hr hp => by simp [hr, hp] at hcounts⟩
    rw [ht]
    exact ⟨countDown_toNat s.dt, countDown_toNat s.st⟩

theorem State.ticks_run (s : State) (n : Nat) : (s.ticks n).run = s.run := by
  induction n with
  | zero => rfl
  | succ n ih => exact (s.ticks n).tick_run.trans ih

theorem State.ticks_timers {s : State} (hr : s.run ≠ .paused) (n : Nat) :
    (s.ticks n).dt.toNat = s.dt.toNat - n ∧ (s.ticks n).st.toNat = s.st.toNat - n := by
  induction n with
  | zero => exact ⟨rfl, rfl⟩
  | succ n ih =>
    obtain ⟨-, hcount, -⟩ := tickCountsBothTimersDown (s.ticks n)
    obtain ⟨hdt, hst⟩ := hcount (.inl (s.ticks_run n ▸ hr))
    simp only [State.ticks, hdt, hst, ih, Nat.sub_sub, and_self]

/-- Settles O43: the sound output is on while ST is not 0. -/
theorem timerOfValueDLastsDTicks : Obligations.TimerOfValueDLastsDTicks := by
  intro s n hr
  obtain ⟨hdt, hst⟩ := State.ticks_timers hr n
  refine ⟨hdt, hst, ?_⟩
  rw [State.soundOn, decide_eq_true_iff, hst]
  omega

/-! ### Run-state control (60_exceptions.md R330 to R333) -/

theorem State.setRunState_running (s : State) :
    s.setRunState .running = s.setRun (if s.run = .halted then .halted else .running) := by
  obtain ⟨hr, h⟩ | ⟨hr, h⟩ := s.setRunState_cases .running
  · rw [h, if_pos hr, ← hr]; rfl
  · rw [h, if_neg hr]

theorem State.setRunState_paused (s : State) :
    s.setRunState .paused = s.setRun (if s.run = .halted then .halted else .paused) := by
  obtain ⟨hr, h⟩ | ⟨hr, h⟩ := s.setRunState_cases .paused
  · rw [h, if_pos hr, ← hr]; rfl
  · rw [h, if_neg hr]

/-- Settles O50, by the three requests. -/
theorem setRunStateIsPauseAndResumeOnly : Obligations.SetRunStateIsPauseAndResumeOnly := by
  refine fun z => ⟨rfl, fun r hr => ?_⟩
  cases r with
  | running => exact ⟨_, rfl, z.state.setRunState_running⟩
  | paused => exact ⟨_, rfl, z.state.setRunState_paused⟩
  | halted => exact absurd rfl hr

/-- A request that is answered writes RUN alone, and only where it is not Halted. -/
theorem Session.setRunState_eq_next {z z' : Session} {q : RunState} {r : Response}
    (h : z.event (.setRunState q) = .next (z', r)) :
    q ≠ .halted ∧ z'.state = z.state.setRun (if z.state.run = .halted then .halted else q) := by
  cases q with
  | running => cases h; exact ⟨nofun, z.state.setRunState_running⟩
  | paused => cases h; exact ⟨nofun, z.state.setRunState_paused⟩
  | halted => cases h

/-- A load that is answered was asked of a fresh session, and it loads the image or changes nothing. -/
theorem Session.load_eq_next {z z' : Session} {bytes : List Byte} {r : Response} (h : z.load bytes = .next (z', r)) :
    z.fresh = true ∧ (z'.state = z.state.loadImage bytes ∨ z'.state = z.state) := by
  unfold Session.load at h
  split at h
  · cases h
  · next hf =>
    refine ⟨by simpa using hf, ?_⟩
    split at h <;> cases h
    · exact .inl rfl
    · exact .inr rfl

theorem Session.step_response {z z' : Session} {r : Response} (h : z.step = .next (z', r)) :
    r = .status (stepStatus z.state z'.state) := by
  unfold Session.step at h
  split at h <;> cases h
  rfl

theorem stepStatus_halted {s t : State} (hr : s.run = .running) (ht : t.run = .halted) :
    stepStatus s t = .halted t.haltReason t.haltWord := by
  simp [stepStatus, hr, ht]

theorem Session.Inv.run_of_fresh {z : Session} (h : z.Inv) (hf : z.fresh = true) : z.state.run = .paused := by
  obtain ⟨keys, hk⟩ := h.fresh hf
  rw [hk]
  simp

/-- Settles O49: an event's own rule says what it makes of RUN. -/
theorem runStateChangesOnlyAsTheTableSays : Obligations.RunStateChangesOnlyAsTheTableSays := by
  intro z z' e r hz h
  cases e with
  | load bytes =>
    obtain ⟨hf, hl | hl⟩ := Session.load_eq_next h
    · exact .inr (.inl ⟨hz.run_of_fresh hf, by rw [hl]; rfl, .inl ⟨bytes, rfl, hf⟩⟩)
    · exact .inl (by rw [hl])
  | step =>
    obtain hrun | ⟨hr, err, ht⟩ := step_keeps_run_or_halts (Session.step_eq_next h)
    · exact .inl hrun
    · have hh : z'.state.run = .halted := by obtain ⟨-, ht⟩ | ⟨-, ht⟩ := ht <;> rw [ht] <;> rfl
      exact .inr (.inr (.inr ⟨hr, hh, rfl, by rw [Session.step_response h, stepStatus_halted hr hh]⟩))
  | tick => cases h; exact .inl z.state.tick_run
  | setRunState q =>
    obtain ⟨hq, hs⟩ := Session.setRunState_eq_next h
    have hrun : z'.state.run = if z.state.run = .halted then .halted else q := congrArg State.run hs
    cases hr : z.state.run with
    | halted => exact .inl (hrun.trans (if_pos hr))
    | running =>
      rw [hr, if_neg nofun] at hrun
      cases q with
      | running => exact .inl hrun
      | paused => exact .inr (.inr (.inl ⟨rfl, hrun, rfl⟩))
      | halted => exact absurd rfl hq
    | paused =>
      rw [hr, if_neg nofun] at hrun
      cases q with
      | running => exact .inr (.inl ⟨rfl, hrun, .inr rfl⟩)
      | paused => exact .inl hrun
      | halted => exact absurd rfl hq
  | writeKeys keys => cases h; exact .inl rfl

/-! ### Where only the keys and the timers change (60_exceptions.md R307, R333) -/

/-- `t` is `s` but for the keys and the two timers. -/
def OnlyKeysAndTimers (s t : State) : Prop := t = { s with dt := t.dt, st := t.st, key := t.key }

theorem OnlyKeysAndTimers.refl (s : State) : OnlyKeysAndTimers s s := rfl

theorem OnlyKeysAndTimers.trans {s t u : State} (h : OnlyKeysAndTimers s t) (h' : OnlyKeysAndTimers t u) :
    OnlyKeysAndTimers s u := by
  rw [OnlyKeysAndTimers, h', h]

theorem OnlyKeysAndTimers.run {s t : State} (h : OnlyKeysAndTimers s t) : t.run = s.run := by
  unfold OnlyKeysAndTimers at h
  rw [h]

theorem OnlyKeysAndTimers.cfg {s t : State} (h : OnlyKeysAndTimers s t) : t.cfg = s.cfg := by
  unfold OnlyKeysAndTimers at h
  rw [h]

theorem OnlyKeysAndTimers.tick (s : State) : OnlyKeysAndTimers s s.tick := by
  rw [OnlyKeysAndTimers, State.tick_eq]
  rfl

theorem OnlyKeysAndTimers.setRun {s t : State} (h : OnlyKeysAndTimers s t) (r : RunState) :
    OnlyKeysAndTimers (s.setRun r) (t.setRun r) := congrArg (State.setRun · r) h

theorem Session.step_not_running {z z' : Session} {r : Response} (hr : z.state.run ≠ .running)
    (h : z.step = .next (z', r)) : z'.state = z.state :=
  Host.Outcome.next.inj ((Session.step_eq_next h).symm.trans (Machine.step_not_running hr))

/-! ### Halted is terminal (60_exceptions.md R307) -/

theorem Session.Inv.load_halted {z : Session} (h : z.Inv) (hr : z.state.run = .halted) (bytes : List Byte) :
    z.event (.load bytes) = .refused .loadNotFresh := by
  have hf : z.fresh = false := Bool.eq_false_iff.2 fun hf => h.run_ne_halted hf hr
  exact if_pos hf

theorem Session.Inv.event_halted {z z' : Session} {e : Event} {r : Response} (h : z.Inv) (hr : z.state.run = .halted)
    (he : z.event e = .next (z', r)) : OnlyKeysAndTimers z.state z'.state := by
  cases e with
  | load bytes => cases (h.load_halted hr bytes).symm.trans he
  | step => exact Session.step_not_running (by simp [hr]) he ▸ .refl _
  | tick => cases he; exact .tick _
  | setRunState q =>
    obtain ⟨-, hs⟩ := Session.setRunState_eq_next he
    rw [hs, if_pos hr, ← hr]
    exact .refl _
  | writeKeys keys => cases he; rfl

theorem EventRun.halted {z z' : Session} {es : List Event} (h : EventRun z es z') (hz : z.Inv)
    (hr : z.state.run = .halted) : OnlyKeysAndTimers z.state z'.state := by
  induction h with
  | nil => exact .refl _
  | cons he _ ih =>
    have hstep := hz.event_halted hr he
    exact hstep.trans (ih (hz.event he) (hstep.run.trans hr))

/-- Settles O14: a run of events from Halted ends Halted, with the invariant kept, so it ends in a session that is not
fresh. -/
theorem haltedIsTerminalUnderEveryEvent : Obligations.HaltedIsTerminalUnderEveryEvent := by
  intro z z' es hz hr hrun
  have hkept := hrun.halted hz hr
  exact ⟨hkept, (everyRunOfEventsKeepsTheInvariant z z' es hz hrun).load_halted (hkept.run.trans hr)⟩

/-! ### A pause and a resume (60_exceptions.md R333) -/

/-- `t` is `s` but for the keys and, where TIMERS_WHILE_PAUSED is true, the two timers. -/
def KeptWhilePaused (s t : State) : Prop :=
  OnlyKeysAndTimers s t ∧ (s.cfg.timersWhilePaused = false → t.dt = s.dt ∧ t.st = s.st)

theorem KeptWhilePaused.refl (s : State) : KeptWhilePaused s s := ⟨.refl s, fun _ => ⟨rfl, rfl⟩⟩

theorem KeptWhilePaused.trans {s t u : State} (h : KeptWhilePaused s t) (h' : KeptWhilePaused t u) :
    KeptWhilePaused s u := by
  obtain ⟨hk, ht⟩ := h
  obtain ⟨hk', ht'⟩ := h'
  refine ⟨hk.trans hk', fun hp => ?_⟩
  obtain ⟨hdt, hst⟩ := ht hp
  obtain ⟨hdt', hst'⟩ := ht' (hk.cfg ▸ hp)
  exact ⟨hdt'.trans hdt, hst'.trans hst⟩

/-- The events that leave RUN of a paused core alone. -/
def Event.IsPassive (e : Event) : Prop := e = .step ∨ e = .tick ∨ ∃ keys, e = .writeKeys keys

/-- A step does nothing while Paused, and a tick counts there only if TIMERS_WHILE_PAUSED (60_exceptions.md R321). -/
theorem Session.event_paused {z z' : Session} {e : Event} {r : Response} (hr : z.state.run = .paused)
    (he : e.IsPassive) (h : z.event e = .next (z', r)) :
    KeptWhilePaused z.state z'.state := by
  obtain rfl | rfl | ⟨keys, rfl⟩ := he
  · exact Session.step_not_running (by simp [hr]) h ▸ .refl _
  · cases h
    refine ⟨.tick _, fun hp => ?_⟩
    rw [(tickCountsBothTimersDown z.state).2.2 hr hp]
    exact ⟨rfl, rfl⟩
  · cases h
    exact ⟨rfl, fun _ => ⟨rfl, rfl⟩⟩

theorem EventRun.paused {z z' : Session} {es : List Event} (hr : z.state.run = .paused)
    (hes : ∀ e ∈ es, e.IsPassive) (h : EventRun z es z') :
    KeptWhilePaused z.state z'.state := by
  induction h with
  | nil => exact .refl _
  | cons he _ ih =>
    obtain ⟨hhead, htail⟩ := List.forall_mem_cons.1 hes
    have hstep := Session.event_paused hr hhead he
    exact hstep.trans (ih (hstep.1.run.trans hr) htail)

/-- A run that ends in one more event is a run and then that event. -/
theorem EventRun.of_concat {z z' : Session} {e : Event} {es : List Event} (h : EventRun z (es ++ [e]) z') :
    ∃ z₁ r, EventRun z es z₁ ∧ z₁.event e = .next (z', r) := by
  induction es generalizing z with
  | nil =>
    obtain - | ⟨he, hnil⟩ := h
    cases hnil
    exact ⟨z, _, .nil z, he⟩
  | cons e' es ih =>
    obtain - | ⟨he', hrest⟩ := h
    obtain ⟨z₁, r, hrun, he⟩ := ih hrest
    exact ⟨z₁, r, .cons he' hrun, he⟩

/-- Settles O41: the pause and the resume write RUN alone, which ends Running as it began. -/
theorem pauseDoesNotDisturbTheStream : Obligations.PauseDoesNotDisturbTheStream := by
  intro z z' es hr hes hrun
  obtain - | ⟨hpause, hrest⟩ := hrun
  obtain ⟨z₂, r, hmid, hresume⟩ := hrest.of_concat
  obtain ⟨-, hp⟩ := Session.setRunState_eq_next hpause
  obtain ⟨-, hs⟩ := Session.setRunState_eq_next hresume
  rw [hr, if_neg nofun] at hp
  obtain ⟨hkept, htimers⟩ := hmid.paused (by rw [hp]; rfl) hes
  rw [hp] at hkept htimers
  rw [hkept.run, if_neg nofun] at hs
  have hback : (z.state.setRun .paused).setRun .running = z.state := by rw [← hr]; rfl
  have hresumed : OnlyKeysAndTimers z.state (z₂.state.setRun .running) := hback ▸ hkept.setRun .running
  exact hs ▸ ⟨hresumed, htimers⟩

end Sys2Proof.Machine

namespace Sys2Proof.Machine

/-! ### A run of bytes that ends inside the space (20_memory.md R85) -/

theorem dataAddr_ofNat {base : Nat} (hb : base < 0x10000) (k : Nat) :
    dataAddr (BitVec.ofNat 16 base) k = BitVec.ofNat 12 (base + k) := by
  rw [dataAddr, maskAddress, BitVec.toNat_ofNat, Nat.mod_eq_of_lt hb]

section
variable {s : State} (hm : s.mem.wf = true) {base : Nat} {bs : List Byte} (hfit : base + bs.length ≤ 0x1000)
include hm hfit

theorem State.readMem_storeBytes_inside {j : Nat} (hj : j < bs.length) :
    (s.storeBytes (BitVec.ofNat 16 base) 0 bs).readMem (BitVec.ofNat 12 (base + j)) = bs[j] := by
  have h := State.readMem_storeBytes hm (BitVec.ofNat 16 base) 0 bs (by omega) j hj
  rwa [dataAddr_ofNat (by omega), Nat.zero_add] at h

theorem State.readMem_storeBytes_outside {a : Addr} (ha : a.toNat < base ∨ base + bs.length ≤ a.toNat) :
    (s.storeBytes (BitVec.ofNat 16 base) 0 bs).readMem a = s.readMem a := by
  refine State.readMem_storeBytes_other hm _ _ _ a fun j hj => ?_
  rw [dataAddr_ofNat (by omega), Nat.zero_add, Ne, ← BitVec.toNat_inj, BitVec.toNat_ofNat]
  omega

end

/-! ### The font in memory (10_state.md R54, 70_reset_and_hazards.md R354) -/

/-- Memory holds the FONT of the parameters at 0x050..0x09F. -/
def State.HoldsFont (s : State) : Prop :=
  ∀ j (h : j < 80), s.readMem (BitVec.ofNat 12 (0x050 + j)) = s.cfg.font[j]

section
variable {s : State} (hm : s.mem.wf = true)
include hm

theorem State.installFont_holdsFont : s.installFont.HoldsFont := by
  intro j hj
  have hlen : s.cfg.font.toList.length = 80 := Vector.length_toList
  have h := State.readMem_storeBytes_inside hm (base := 0x050) (bs := s.cfg.font.toList) (by omega) (hlen ▸ hj)
  rw [State.installFont_cfg]
  exact h.trans (Vector.getElem_toList _)

theorem State.readMem_installFont_outside {a : Addr} (ha : a.toNat < 0x050 ∨ 0x09F < a.toNat) :
    s.installFont.readMem a = s.readMem a := by
  have hlen : s.cfg.font.toList.length = 80 := Vector.length_toList
  exact State.readMem_storeBytes_outside hm (base := 0x050) (by omega) (by omega)

/-- Installing the font where it stands writes the bytes that are there, so memory is the same data (log entry 4). -/
theorem State.HoldsFont.installFont_mem (hf : s.HoldsFont) : s.installFont.mem = s.mem := by
  refine canonicalMemoriesThatReadAlikeAreEqual _ _ (State.installFont_wf hm) hm fun a => ?_
  by_cases ha : a.toNat < 0x050 ∨ 0x09F < a.toNat
  · exact State.readMem_installFont_outside hm ha
  · obtain ⟨j, hj⟩ := Nat.exists_eq_add_of_le (Nat.le_of_not_lt fun h => ha (.inl h))
    have haj : a = BitVec.ofNat 12 (0x050 + j) := by rw [← hj, BitVec.ofNat_toNat, BitVec.setWidth_eq]
    have h80 : j < 80 := by omega
    have hnew := State.installFont_holdsFont hm j h80
    rw [State.installFont_cfg, ← hf j h80, ← haj] at hnew
    exact hnew

/-- An image at 0x200 lies above the font. -/
theorem State.HoldsFont.storeImage (hf : s.HoldsFont) {bytes : List Byte} (hlen : bytes.length ≤ 3584) :
    (s.storeBytes (BitVec.ofNat 16 Config.entry) 0 bytes).HoldsFont := by
  intro j hj
  have hentry : Config.entry = 0x200 := rfl
  rw [State.readMem_storeBytes_outside hm (by omega) (.inl (by rw [BitVec.toNat_ofNat]; omega)), hf j hj,
    State.storeBytes_cfg]

theorem State.HoldsFont.loadImage_mem (hf : s.HoldsFont) {bytes : List Byte} (hlen : bytes.length ≤ 3584) :
    (s.loadImage bytes).mem = (s.storeBytes (BitVec.ofNat 16 Config.entry) 0 bytes).mem :=
  (hf.storeImage hm hlen).installFont_mem (State.storeBytes_wf hm _ _ _)

end

/-! ### Construction (70_reset_and_hazards.md R350) -/

theorem State.construct_holdsFont (p : Params) : (State.construct p).HoldsFont := State.installFont_holdsFont rfl

/-- The default FONT stands nowhere else. -/
theorem Memory.initial_of_outside_font {a : Nat} (ha : a < 0x050 ∨ 0x09F < a) : Memory.initial a = 0 := by
  have hbase : Config.fontBase = 0x050 := rfl
  have hlen : Config.font.length = 80 := rfl
  unfold Memory.initial
  split
  · rw [List.getD_eq_getElem?_getD, List.getElem?_eq_none (by omega), Option.getD_none]
  · rfl

theorem State.readMem_construct_outside (p : Params) {a : Addr} (ha : a.toNat < 0x050 ∨ 0x09F < a.toNat) :
    (State.construct p).readMem a = 0 :=
  (State.readMem_installFont_outside rfl ha).trans (Memory.initial_of_outside_font ha)

/-- Settles O44: memory by the rules of the font's installation, every other field by its own rule of construction. -/
theorem constructionLeavesTheResetValues : Obligations.ConstructionLeavesTheResetValues := by
  intro p s
  refine ⟨fun j hj => ?_, fun a => State.readMem_construct_outside p, ?_⟩
  · simpa [s] using State.construct_holdsFont p j hj
  · simp [s, State.readV, State.pixel, State.keyDown, Keys.none]

theorem State.construct_inv (p : Params) : (State.construct p).Inv where
  memCanonical := State.construct_wf p
  stackLength := by simp
  spBound := by simp
  stackEntries := by simp +contextual
  pcBound := by simp
  progBound := by simp
  haltedIff := by simp
  haltCode := by simp
  haltWord := by simp
  haltWordInvalid := by simp
  waitNotHalted := by simp

/-- Settles O51: the reset state is a constructed one, and a new session's keys are those of construction. -/
theorem resetMeetsTheInvariant : Obligations.ResetMeetsTheInvariant where
  left := State.reset_eq_construct ▸ State.construct_inv Params.standard
  right p :=
    { state := State.construct_inv p
      fresh := fun _ => ⟨(State.construct p).key, by rw [Session.new, State.construct_cfg]; rfl⟩ }

/-! ### The loader (70_reset_and_hazards.md R352 to R356) -/

theorem imageFits_iff {bytes : List Byte} : imageFits bytes = true ↔ bytes.length ≤ 3584 := decide_eq_true_iff

theorem Session.load_used {z : Session} (hf : z.fresh = false) (bytes : List Byte) :
    z.event (.load bytes) = .refused .loadNotFresh := if_pos hf

theorem Session.load_fresh {z : Session} (hf : z.fresh = true) (bytes : List Byte) :
    z.event (.load bytes) =
      if bytes.length ≤ 3584 then .next ({ state := z.state.loadImage bytes, fresh := false }, .loadOk)
      else .next (z, .programTooLarge) := by
  simp [Session.event, Session.load, hf, imageFits_iff]

/-- Settles O46: the first test of a load is of freshness, the second of the length. -/
theorem loadFailsOrIsRefused : Obligations.LoadFailsOrIsRefused := fun _ bytes =>
  ⟨fun hf hlen => (Session.load_fresh hf bytes).trans (if_neg (Nat.not_le.2 hlen)),
    fun hf => Session.load_used hf bytes⟩

/-- Settles O47: the constructed state holds the font, and the image lies above it. -/
theorem secondFontInstallationChangesNothing : Obligations.SecondFontInstallationChangesNothing :=
  fun p _ hlen => (State.construct_holdsFont p).loadImage_mem (State.construct_wf p) hlen

/-- Settles O45: memory after the load is memory after the image is stored, and the load's own rule gives the other
fields. -/
theorem loadPlacesTheProgram : Obligations.LoadPlacesTheProgram := by
  intro p keys bytes hlen s
  have hentry : Config.entry = 0x200 := rfl
  have hm : s.mem.wf = true := State.construct_wf p
  have hf : s.HoldsFont := State.construct_holdsFont p
  have hread (a : Addr) := State.readMem_congr (hf.loadImage_mem hm hlen) a
  have hfit : Config.entry + bytes.length ≤ 0x1000 := by omega
  have hload := s.loadImage_eq bytes
  refine ⟨s.loadImage bytes, (Session.load_fresh rfl bytes).trans (if_pos hlen), fun j hj => ?_, fun j hj => ?_,
    fun a ha => ?_, ?_, ?_, ?_, ?_⟩
  · exact (hread _).trans (State.readMem_storeBytes_inside hm hfit hj)
  · simpa [s] using (hread _).trans (hf.storeImage hm hlen j hj)
  · exact (hread a).trans (State.readMem_storeBytes_outside hm hfit ha)
  · rw [hload]
    exact Nat.mod_eq_of_lt (by omega)
  · rw [hload]; rfl
  · rw [hload]; rfl
  · rw [hload]; rfl

/-! ### Running without a load (70_reset_and_hazards.md R359) -/

theorem State.construct_fetchWord (p : Params) : (State.construct p).fetchWord = 0x0000 := by
  rw [State.fetchWord, State.construct_pc, State.readMem_construct_outside p (by decide),
    State.readMem_construct_outside p (by decide)]
  rfl

/-- A constructed state with the keys as the host wrote them, set running with no program loaded. -/
def State.resumed (p : Params) (keys : Keys) : State := ((State.construct p).setKey keys).setRun .running

section
variable (p : Params) (keys : Keys)

theorem Session.resume_construct :
    Session.event { state := (State.construct p).setKey keys, fresh := true } (.setRunState .running) =
      .next ({ state := State.resumed p keys, fresh := false }, .done) := by
  simp [Session.event, Session.setRunState, State.setRunState_running, State.resumed]

/-- Address 0 may be fetched from with no program loaded: the checks have no lower bound (20_memory.md R94). -/
theorem State.resumed_fetches : (State.resumed p keys).Fetches where
  running := rfl
  notWait := State.construct_wait p
  inBounds := by simp [State.resumed]
  inImage := by simp [State.resumed, Config.entry]

theorem State.step_resumed : step (State.resumed p keys) =
    .next ((State.resumed p keys).advancePc.raiseHalt (.invalidOpcode 0x0000)) := by
  have hw : (State.resumed p keys).fetchWord = 0x0000 := State.construct_fetchWord p
  exact (State.resumed_fetches p keys).step_invalid (by rw [hw]; rfl)

end

theorem Session.step_of_next {z : Session} {t : State} (h : Machine.step z.state = .next t) :
    z.event .step = .next ({ state := t, fresh := false }, .status (stepStatus z.state t)) := by
  simp only [Session.event, Session.step, h]

/-- Settles O48: the request is answered, the step fetches 0x0000, and that word is invalid. -/
theorem resumeWithoutLoadHalts : Obligations.ResumeWithoutLoadHalts := by
  intro p keys
  have hstep :=
    Session.step_of_next (z := { state := State.resumed p keys, fresh := false }) (State.step_resumed p keys)
  rw [stepStatus_halted rfl rfl] at hstep
  exact ⟨_, _, Session.resume_construct p keys, hstep, rfl, rfl, rfl, by simp [State.resumed]⟩

end Sys2Proof.Machine
